-- ==== Sys2Proof/Word.lean ====
section
/-! DEFINITION. The words of the V850E2M: the data formats of R7 and R224, and the field types of an instruction. -/
namespace Sys2Proof

/-- A byte, 8 bits (R7, R224). -/
abbrev Byte := BitVec 8
/-- A halfword, 16 bits: the unit an instruction is made of (R7, R270). -/
abbrev Half := BitVec 16
/-- A word, 32 bits: a register, an address (R7, R220). -/
abbrev Word := BitVec 32
/-- A doubleword, 64 bits: it exists in register pairs only (R224). -/
abbrev DWord := BitVec 64
/-- The number of a general-purpose register, 0 to 31 (R30). -/
abbrev Reg := BitVec 5
/-- Bits 4 to 1 of the number of the even register of a pair (R178, R295). -/
abbrev Pair := BitVec 4

/-- The even register of a pair: it holds bits 31 to 0 of a doubleword (R178). -/
def Pair.lo (p : Pair) : Reg := p ++ 0#1
/-- The odd register of a pair: it holds bits 63 to 32 of a doubleword (R178). -/
def Pair.hi (p : Pair) : Reg := p ++ 1#1

/-- The word whose only bit set is bit `n`. -/
abbrev bitAt (n : Nat) : Word := 1#32 <<< n

end Sys2Proof
end

