-- ==== Sys2Proof/Config.lean ====
section
/-! DEFINITION. What an implementation fixes: the product parameters of R6 (and of the tables that close spec/92 and
spec/93), as plain data, and the free values, which are constants with no body. -/
namespace Sys2Proof

/-! ### Free values

The spec gives the machine a value without saying which one. Each is an opaque constant applied to `State.free`, a
counter that every use advances, so that nothing can be proved about any of them (log entry 3). -/

/-- A 32-bit value the spec leaves open. -/
opaque freeWord : Nat → Word
/-- A 64-bit value the spec leaves open. -/
opaque freeDword : Nat → DWord
/-- A single bit (a flag, a sign, whether an exception is detected) the spec leaves open. -/
opaque freeBit : Nat → Bool

/-! ### Product parameters -/

/-- A field of an opcode that holds an operand: `count` bits, from bit `src` of the opcode on, which the encoding of the
instruction has from bit `dst` on. Bit 0 is the least significant bit of the first halfword, and the bits of the later
halfwords follow, up to bit 63. -/
structure OperandField where
  src : Nat
  dst : Nat
  count : Nat
  deriving DecidableEq, Repr

/-- An instruction that a reserved opcode operates as, with its operands taken from any of the opcode's halfwords: the
encoding of the instruction is `base` with these fields of the opcode put in. -/
structure OpcodeForm where
  base : DWord
  fields : List OperandField
  deriving DecidableEq, Repr

/-- RESERVED_OPCODE_POLICY (R297, R1034): reserved opcodes that operate as an instruction which the product names. An opcode
is one of them if the bits of its halfwords `hw4 ‖ hw3 ‖ hw2 ‖ hw1` (0 beyond its length) that `mask` selects are those of
`value`, and if the length that R287 gives it is that of the instruction: R287 leaves an opcode no other length. -/
structure ProductOpcode where
  mask : DWord
  value : DWord
  /-- What it operates as; `none` is an instruction that the spec does not describe. -/
  form : Option OpcodeForm
  deriving DecidableEq, Repr

/-- RESERVED_FP_OPCODE_POLICY (D55): what an undefined opcode of the coprocessor area does when the FPU is present. -/
inductive ReservedFpPolicy where
  /-- The unimplemented operation exception E, the spec's default. -/
  | unimplemented
  /-- The coprocessor unusable exception. -/
  | unusable
  /-- The reserved instruction exception. -/
  | reserved
  deriving DecidableEq, Repr

/-- An address range, both ends included. -/
structure Region where
  lo : Nat
  hi : Nat
  deriving DecidableEq, Repr

/-- The region holds the address. -/
def Region.has (r : Region) (a : Word) : Bool := r.lo ≤ a.toNat && a.toNat ≤ r.hi

/-- The product parameters. A state carries them and no step writes them (log entry 2). -/
structure Config where
  /-- HAS_FPU: the floating-point coprocessor is implemented (R3). -/
  hasFpu : Bool
  /-- PC_LIMIT_512MB: instruction-address registers sign-extend bit 28 (R35). -/
  pcLimit512 : Bool
  /-- EH_RESET_INIT: the reset address; bits 12 to 0 are dropped (R73). -/
  ehResetInit : Word
  /-- EH_BASE_INIT: the handler base after reset; bits 12 to 0 are dropped (R72). -/
  ehBaseInit : Word
  /-- EH_CFG_RINT_INIT: RINT after reset (R71). -/
  rintInit : Bool
  /-- RESERVED_OPCODE_POLICY (R297): the first entry that an opcode matches decides; an opcode that matches none raises the
  reserved instruction exception, which is the spec's default for every opcode (D51). -/
  productOpcodes : List ProductOpcode
  /-- RESERVED_FP_OPCODE_POLICY (D55). -/
  reservedFpOpcode : ReservedFpPolicy
  /-- UCPOP_UNDEFINED_CODE (R1032): bits 2 to 0 of the code 530H to 537H. -/
  ucpopUndefined : BitVec 3
  /-- TS_EVENT_SOURCES (R6, R910): the counters that count external events in place of CPU clocks (log entry 16). -/
  tsEventSources : Vector Bool 6
  /-- MPM_AUE_BIT (R124): the position of MPM.AUE, which the source lost. -/
  aueBit : Nat
  /-- MPM_SPS_BIT (R124): the position of MPM.SPS, which the source lost. -/
  spsBit : Nat
  /-- SCH_CY_ONLY_AT_LAST (D54). -/
  schCyOnlyAtLast : Bool
  /-- CMPF_SNAN_ALWAYS_INVALID (R771). -/
  cmpfSnanAlwaysInvalid : Bool
  /-- FP_OU_ALWAYS_I (R659). -/
  fpOuAlwaysI : Bool
  /-- FMA_PRODUCT_OVERFLOW_CHECK (R667). -/
  fmaProductOverflowCheck : Bool
  /-- RECIP_APPROX (D61): how many units in the last place a RECIPF or RSQRTF result may lie from the rounded one. -/
  recipApproxUlp : Nat
  /-- FP_QNAN_S: the single-precision Q-NaN the FPU generates (R656). -/
  qnanS : Word
  /-- FP_QNAN_D: the double-precision Q-NaN the FPU generates (R656). -/
  qnanD : DWord
  /-- MEMORY_MAP: regions of product devices that the spec names and does not describe (R161). -/
  deviceRegions : List Region
  /-- MEMORY_MAP: regions with no memory and no device behind them (U10). -/
  unbackedRegions : List Region
  /-- PERIPHERAL_MAP: the reset values of PPVn, n = 0 to 8 (R139). -/
  ppvInit : Vector Word 9
  /-- PERIPHERAL_MAP: the reset values of PPTn. -/
  pptInit : Vector Word 9
  /-- PERIPHERAL_MAP: the reset values of PPPn. -/
  pppInit : Vector Word 9
  /-- PERIPHERAL_MAP: the reset values of PPSn. -/
  ppsInit : Vector Word 9
  /-- PERIPHERAL_MAP: the bits of PPVn that the product fixes at their reset value, as it may (R139). A bit with no device
  behind it does not exist (R6): it is fixed in all four registers, at 0. -/
  ppvFixed : Vector Word 9
  /-- PERIPHERAL_MAP: the bits of PPTn that the product fixes. -/
  pptFixed : Vector Word 9
  /-- PERIPHERAL_MAP: the bits of PPPn that the product fixes. -/
  pppFixed : Vector Word 9
  /-- PERIPHERAL_MAP: the bits of PPSn that the product fixes. -/
  ppsFixed : Vector Word 9
  deriving DecidableEq, Repr

/-- Nine words, the first given and the rest zero. -/
def nineWords (w : Word) : Vector Word 9 := #v[w, 0, 0, 0, 0, 0, 0, 0, 0]

/-- The devices of set PPC0 that R161 names for a use: INTC, Fcache, SEG, EXTBRK, MIR, MEV, MEC and PEG. -/
def namedDevices : List Region :=
  [⟨0xFFFF6000, 0xFFFF645F⟩, ⟨0xFFFF6480, 0xFFFF6487⟩, ⟨0xFFFF64B0, 0xFFFF64B3⟩, ⟨0xFFFF6700, 0xFFFF67FF⟩,
   ⟨0xFFFF6800, 0xFFFF687F⟩, ⟨0xFFFF6900, 0xFFFF697F⟩, ⟨0xFFFF6980, 0xFFFF699F⟩, ⟨0xFFFF69A0, 0xFFFF69BF⟩]

/-- The rest of the areas of set PPC0 (R161): reserved areas, areas for expansion and the gaps between them. A device region
takes precedence over these. The areas of PPC1 to PPC8, which belong to the product, have no device by default and are
memory, as R371 has FFFFFFFEH and FFFFFFFFH. -/
def emptyAreas : List Region := [⟨0xFFFF5000, 0xFFFF7FFF⟩]

/-- The default of every product parameter (spec/92 and spec/93 give each one; log entries 2 and 5). -/
def Config.default : Config where
  hasFpu := true
  pcLimit512 := false
  ehResetInit := 0
  ehBaseInit := 0
  rintInit := false
  productOpcodes := []
  reservedFpOpcode := .unimplemented
  ucpopUndefined := 0
  tsEventSources := Vector.replicate 6 false
  aueBit := 1
  spsBit := 2
  schCyOnlyAtLast := true
  cmpfSnanAlwaysInvalid := false
  fpOuAlwaysI := false
  fmaProductOverflowCheck := true
  recipApproxUlp := 0
  qnanS := 0x7FFFFFFF
  qnanD := 0x7FFFFFFFFFFFFFFF
  deviceRegions := namedDevices
  unbackedRegions := emptyAreas
  ppvInit := nineWords 0x30000
  pptInit := nineWords 0x30000
  pppInit := nineWords 0x30000
  ppsInit := nineWords 0
  ppvFixed := nineWords 0
  pptFixed := nineWords 0
  pppFixed := nineWords 0
  ppsFixed := nineWords 0

end Sys2Proof
end

