-- ==== Sys2Proof/Machine/Memory.lean ====
section
/-! DEFINITION. Memory: the 4 GB space of R220 as a list of (address, byte) pairs in one canonical form, and the
arithmetic of instruction addresses (R33, R35). -/
namespace Sys2Proof.Machine

/-- Memory: the bytes that differ from what an unlisted address reads as. -/
abbrev Memory := List Host.Cell

/-- What an address that is not listed reads as. The spec gives no contents of memory at reset (R1102); DESIGN CHOICE,
unsafe (log entry 4). -/
def Memory.unlisted : Byte := 0

/-- One byte of memory. -/
def Memory.read : Memory → Nat → Byte
  | [], _ => Memory.unlisted
  | c :: m, a => if c.1 = a then c.2 else Memory.read m a

/-- Memory without any entry for the address. -/
def Memory.erase : Memory → Nat → Memory
  | [], _ => []
  | c :: m, a => if c.1 = a then Memory.erase m a else c :: Memory.erase m a

/-- Memory with an entry put before the first one at a higher address. -/
def Memory.insert : Memory → Nat → Byte → Memory
  | [], a, b => [(a, b)]
  | c :: m, a, b => if a < c.1 then (a, b) :: c :: m else c :: Memory.insert m a b

/-- Memory after one byte is stored. Storing what an unlisted address reads as removes the entry. -/
def Memory.write (m : Memory) (a : Nat) (b : Byte) : Memory :=
  if b = Memory.unlisted then m.erase a else (m.erase a).insert a b

/-- The entries start at `lo` or above, rise strictly, stay in the 4 GB space, and none equals an unlisted byte. -/
def Memory.wfFrom : Nat → Memory → Bool
  | _, [] => true
  | lo, c :: m => lo ≤ c.1 && c.1 < 2 ^ 32 && c.2 != Memory.unlisted && Memory.wfFrom (c.1 + 1) m

/-- The canonical form: addresses strictly rise, stay below 2^32, and no entry equals an unlisted byte. -/
def Memory.wf (m : Memory) : Bool := m.wfFrom 0

/-! ### Instruction addresses -/

/-- What an instruction-address register keeps of a value: in a product limited to 512 MB, bits 31 to 29 become bit 28
(R35). -/
def limitAddr (cfg : Config) (v : Word) : Word :=
  if cfg.pcLimit512 then (v.extractLsb' 0 29).signExtend 32 else v

/-- A value as the program counter keeps it: bit 0 is fixed to 0 (R33). -/
def pcValue (cfg : Config) (v : Word) : Word := limitAddr cfg v &&& ~~~1#32

/-- EH_BASE, EH_RESET and SW_BASE keep no bits 12 to 0 (R70, R72, R73). -/
def baseValue (cfg : Config) (v : Word) : Word := limitAddr cfg v &&& ~~~0x1FFF#32

end Sys2Proof.Machine
end

