-- ==== Sys2Proof/Machine/State.lean ====
section
/-! DEFINITION. The state of the machine, as plain data: everything the spec names, the outside world's inputs and the
machine's reports as lists, and why a step can stop. -/
namespace Sys2Proof.Machine

/-! ### The outside world (R1010, R1011) -/

/-- What the environment presents at one instruction boundary, and how many CPU clocks that step takes (R1011, D62,
D63). A set field is a request that has passed every mask outside the core. -/
structure Ext where
  /-- The reset input. -/
  reset : Bool
  /-- The FE level non-maskable interrupt input. -/
  fenmi : Bool
  /-- The FE level maskable interrupt input. -/
  feint : Bool
  /-- The SYSERR input: `some k` is the code 230H + k. -/
  syserr : Option (Fin 4)
  /-- The instruction access error input for this fetch: `some k` is the code 330H + k. -/
  mep : Option (Fin 4)
  /-- The interrupt channel that the controller presents. -/
  int : Option Byte
  /-- CPU clocks of the step beyond the first. -/
  extraClocks : Nat
  /-- External events of the step, for each counter that counts them (TS_EVENT_SOURCES of R6). -/
  events : Vector Nat 6
  /-- `some k`: a request comes up while a PREPARE or DISPOSE runs, and stops it after `k` accesses (R247). -/
  stopAfter : Option Nat
  deriving DecidableEq, Repr

/-- No request, one clock. -/
def Ext.quiet : Ext := ⟨false, false, false, none, none, none, 0, Vector.replicate 6 0, none⟩

/-- What the core tells the outside world (R1011, R1024). -/
inductive Report where
  /-- Channel `n` of INT has been acknowledged. -/
  | ackInt (n : Byte)
  /-- A return instruction has executed with PSW.EP = 0. -/
  | endOfHandler
  deriving DecidableEq, Repr

/-! ### Registers -/

/-- The system registers of the main bank and of the handler switching banks, PSW apart (R42, R67).
SW_CTL reads 0 and holds nothing (R68). -/
structure MainRegs where
  eipc : Word
  eipsw : Word
  fepc : Word
  fepsw : Word
  ecr : Word
  sccfg : Word
  scbp : Word
  eiic : Word
  feic : Word
  ctpc : Word
  ctpsw : Word
  ctbp : Word
  eiwr : Word
  fewr : Word
  dbwr : Word
  bsel : Word
  swCfg : Word
  swBase : Word
  ehCfg : Word
  ehReset : Word
  ehBase : Word
  deriving DecidableEq, Repr

/-- A memory protection area: its lower-limit and upper-limit registers (R130 to R133). Bit 1 (S) of the lower one is
not stored: it follows MPM.SPS (R134). -/
structure Area where
  lower : Word
  upper : Word
  deriving DecidableEq, Repr

/-- The registers of the processor protection banks (R121 to R137, R156 to R159). MPC and MCC read 0 and hold nothing. -/
structure ProtRegs where
  mpm : Word
  tid : Word
  vsecr : Word
  vstid : Word
  vsadr : Word
  vmecr : Word
  vmtid : Word
  vmadr : Word
  mca : Word
  mcs : Word
  mcr : Word
  ipa : Vector Area 5
  dpa : Vector Area 6
  deriving DecidableEq, Repr

/-- The peripheral device protection unit, at FFFF5100H (R138 to R148). -/
structure PpuRegs where
  ppm : Word
  ppec : Word
  vpnecr : Word
  vpnadr : Word
  vpntid : Word
  vptecr : Word
  vptadr : Word
  vpttid : Word
  ppv : Vector Word 9
  ppt : Vector Word 9
  ppp : Vector Word 9
  pps : Vector Word 9
  deriving DecidableEq, Repr

/-- A counter of the timing supervision unit (R150, R153 to R155) and its prescaler phase (R160 (c)). -/
structure Counter where
  /-- TSCCFGn; bit 3 (RLD) is a command and is stored as 0. -/
  cfg : Word
  /-- TSCCNTn.VAL. -/
  cnt : BitVec 28
  /-- TSCCMPn.VAL. -/
  cmp : BitVec 28
  /-- TSCRLDn.VAL. -/
  rld : BitVec 28
  /-- Clocks since the last count. -/
  phase : Nat
  deriving DecidableEq, Repr

/-- The timing supervision unit, at FFFF5000H (R149 to R155). TSECR maps the ES bits of the counters. -/
structure TsuRegs where
  tsec : Word
  counters : Vector Counter 6
  deriving DecidableEq, Repr

/-- The registers of the FPU status bank (R170). FPST, FPCC and FPCFG are windows onto FPSR. -/
structure FpuRegs where
  fpsr : Word
  fpepc : Word
  fpec : Word
  deriving DecidableEq, Repr

/-- The machine. -/
structure State where
  /-- r0 to r31 (R30). Entry 0 is never read and never written (R31). -/
  regs : Vector Word 32
  /-- The program counter (R33). -/
  pc : Word
  /-- The program status word (R48). -/
  psw : Word
  /-- The HALT state (R594). -/
  halted : Bool
  main : MainRegs
  prot : ProtRegs
  ppu : PpuRegs
  tsu : TsuRegs
  fpu : FpuRegs
  /-- Memory (R220). -/
  mem : Memory
  /-- What the environment will present, the next boundary first; an empty list is quiet for ever (the model's own). -/
  inputs : List Ext
  /-- After how many accesses the environment stops a PREPARE or DISPOSE in this step (R247; the model's own). -/
  stopAfter : Option Nat
  /-- What the core has reported, the latest first (the model's own). -/
  reports : List Report
  /-- How many free values have been used (the model's own). -/
  free : Nat
  /-- The product parameters; no step writes them (the model's own). -/
  cfg : Config
  deriving DecidableEq, Repr

/-! ### Why a step stops -/

/-- Faults. Each is raised by the fetch of an instruction, never by an instruction's meaning. -/
inductive Fault where
  /-- An instruction is fetched from an address with no memory behind it, and the environment reports no memory error
  (R1037, U10). Safe: the spec gives such a fetch no result. -/
  | fetchFromNothing (address : Word)
  /-- An instruction is fetched from a device that the spec names and does not describe (R161). Safe. -/
  | fetchFromDevice (address : Word)
  deriving DecidableEq, Repr

/-- Refusals. -/
inductive Refusal where
  /-- The instruction has no meaning yet. Raised by `exec`'s arm. Safe. -/
  | notModelled (mnemonic : String)
  /-- A data access to a device that the spec names and does not describe (R161, scope of R5). Raised by the memory
  operations. Safe. -/
  | undescribedDevice (address : Word)
  /-- A reserved opcode in a product that makes it operate as an instruction the spec does not describe (R297). Raised by
  `step`. Safe. -/
  | productInstruction
  deriving DecidableEq, Repr

/-! ### Reset -/

/-- The system registers after reset (R78, R1102); those the spec calls undefined are 0 (log entry 1). -/
def MainRegs.reset (cfg : Config) : MainRegs where
  eipc := 0
  eipsw := 0x20
  fepc := 0
  fepsw := 0x20
  ecr := 0
  sccfg := 0
  scbp := 0
  eiic := 0
  feic := 0
  ctpc := 0
  ctpsw := 0x20
  ctbp := 0
  eiwr := 0
  fewr := 0
  dbwr := 0
  bsel := 0
  swCfg := 0
  swBase := 0
  ehCfg := if cfg.rintInit then 1 else 0
  ehReset := baseValue cfg cfg.ehResetInit
  ehBase := baseValue cfg cfg.ehBaseInit

/-- The protection registers after reset (R180). -/
def ProtRegs.reset : ProtRegs where
  mpm := 0
  tid := 0
  vsecr := 0
  vstid := 0
  vsadr := 0
  vmecr := 0
  vmtid := 0
  vmadr := 0
  mca := 0
  mcs := 0
  mcr := 0
  ipa := Vector.replicate 5 ⟨0, 0⟩
  dpa := #v[⟨0, 6⟩, ⟨0, 0⟩, ⟨0, 0⟩, ⟨0, 0⟩, ⟨0, 0⟩, ⟨4, 0⟩]

/-- The peripheral protection registers after reset: the six violation registers keep what they held (R180, R1105). -/
def PpuRegs.resetFrom (cfg : Config) (old : PpuRegs) : PpuRegs :=
  { old with ppm := 0, ppec := 0, ppv := cfg.ppvInit, ppt := cfg.pptInit, ppp := cfg.pppInit, pps := cfg.ppsInit }

/-- The timing supervision registers after reset (R180). -/
def TsuRegs.reset : TsuRegs := ⟨0, Vector.replicate 6 ⟨0, 0, 0, 0, 0⟩⟩

/-- The FPU registers after reset (R171, R180): FS = 1. -/
def FpuRegs.reset : FpuRegs := ⟨0x20000, 0, 0⟩

/-- The machine when the reset input is taken at a boundary (R1022, R1102, R1103): memory, the product parameters, the
six violation registers and what belongs to the environment stay, everything else takes its reset value. -/
def State.resetFrom (s : State) : State where
  regs := Vector.replicate 32 0
  pc := pcValue s.cfg (MainRegs.reset s.cfg).ehReset
  psw := 0x20
  halted := false
  main := MainRegs.reset s.cfg
  prot := ProtRegs.reset
  ppu := PpuRegs.resetFrom s.cfg s.ppu
  tsu := TsuRegs.reset
  fpu := FpuRegs.reset
  mem := s.mem
  inputs := s.inputs
  stopAfter := s.stopAfter
  reports := s.reports
  free := s.free
  cfg := s.cfg

/-- The machine right after its first reset in a product with these parameters: no memory listed, no input waiting, the
six violation registers at the value the log names (log entry 1). -/
def State.resetOf (cfg : Config) : State where
  regs := Vector.replicate 32 0
  pc := pcValue cfg (MainRegs.reset cfg).ehReset
  psw := 0x20
  halted := false
  main := MainRegs.reset cfg
  prot := ProtRegs.reset
  ppu := PpuRegs.resetFrom cfg ⟨0, 0, 0, 0, 0, 0, 0, 0, cfg.ppvInit, cfg.pptInit, cfg.pppInit, cfg.ppsInit⟩
  tsu := TsuRegs.reset
  fpu := FpuRegs.reset
  mem := []
  inputs := []
  stopAfter := none
  reports := []
  free := 0
  cfg := cfg

/-- The machine right after reset. -/
def State.reset : State := State.resetOf Config.default

end Sys2Proof.Machine
end

