-- ==== Sys2Proof/Machine/Flags.lean ====
section
/-! DEFINITION. The bits of PSW and of MPM, the condition codes (R290), and the flag computations of R8: carry, borrow,
overflow, sign and zero. -/
namespace Sys2Proof.Machine

/-! ### Bits of a word -/

/-- The word with bit `n` made `b`. -/
def putBit (w : Word) (n : Nat) (b : Bool) : Word := if b then w ||| bitAt n else w &&& ~~~bitAt n

/-! ### PSW (R48) and MPM (R124) -/

/-- The bits PSW holds: the reserved bits and SS, SB, SE stay 0 (R50, R56, D4, D6). -/
def pswMask : Word := 0x000F00FF#32
/-- PP, NPV, DMP and IMP, the protection bits (R850). -/
def protMask : Word := 0x000F0000#32

/-- PSW.Z, the zero flag. -/
def State.fZ (s : State) : Bool := s.psw.getLsbD 0
/-- PSW.S, the sign flag. -/
def State.fS (s : State) : Bool := s.psw.getLsbD 1
/-- PSW.OV, the overflow flag. -/
def State.fOV (s : State) : Bool := s.psw.getLsbD 2
/-- PSW.CY, the carry flag. -/
def State.fCY (s : State) : Bool := s.psw.getLsbD 3
/-- PSW.SAT, the cumulative saturation flag (R54). -/
def State.fSAT (s : State) : Bool := s.psw.getLsbD 4
/-- PSW.ID: EI level maskable exceptions are held pending (R53). -/
def State.fID (s : State) : Bool := s.psw.getLsbD 5
/-- PSW.EP: an exception other than an interrupt is being processed (R52). -/
def State.fEP (s : State) : Bool := s.psw.getLsbD 6
/-- PSW.NP: an FE level exception is being processed (R51). -/
def State.fNP (s : State) : Bool := s.psw.getLsbD 7
/-- PSW.IMP: instruction execution is checked (R870). -/
def State.fIMP (s : State) : Bool := s.psw.getLsbD 16
/-- PSW.DMP: data accesses are checked (R870). -/
def State.fDMP (s : State) : Bool := s.psw.getLsbD 17
/-- PSW.NPV: protected system registers are not written (R860). -/
def State.fNPV (s : State) : Bool := s.psw.getLsbD 18
/-- PSW.PP: peripheral accesses are in the NT state (R892). -/
def State.fPP (s : State) : Bool := s.psw.getLsbD 19

/-- MPM.MPE: processor protection is enabled (R852). -/
def State.mpe (s : State) : Bool := s.prot.mpm.getLsbD 0
/-- MPM.AUE: execution level auto transition is enabled (R853). -/
def State.aue (s : State) : Bool := s.prot.mpm.getLsbD s.cfg.aueBit
/-- MPM.SPS: sp-indirect accesses outside DPA0 are violations (R134). -/
def State.sps (s : State) : Bool := s.prot.mpm.getLsbD s.cfg.spsBit

/-! ### Condition codes -/

/-- The truth of a condition code (R290): the codes with bit 3 set negate those without, but for T and SA. -/
def cond (cccc : BitVec 4) (s : State) : Bool :=
  match cccc with
  | 0b0000#4 => s.fOV
  | 0b0001#4 => s.fCY
  | 0b0010#4 => s.fZ
  | 0b0011#4 => s.fCY || s.fZ
  | 0b0100#4 => s.fS
  | 0b0101#4 => true
  | 0b0110#4 => s.fS ^^ s.fOV
  | 0b0111#4 => (s.fS ^^ s.fOV) || s.fZ
  | 0b1000#4 => !s.fOV
  | 0b1001#4 => !s.fCY
  | 0b1010#4 => !s.fZ
  | 0b1011#4 => !(s.fCY || s.fZ)
  | 0b1100#4 => !s.fS
  | 0b1101#4 => s.fSAT
  | 0b1110#4 => !(s.fS ^^ s.fOV)
  | _ => !((s.fS ^^ s.fOV) || s.fZ)

/-! ### Sums and differences -/

/-- A word result with the carry (or borrow) and the overflow of the operation that gave it. -/
structure Flagged where
  value : Word
  cy : Bool
  ov : Bool
  deriving DecidableEq, Repr

/-- `a + b + c` (R8). -/
def addc (a b : Word) (c : Bool) : Flagged :=
  let r := a + b + (BitVec.ofBool c).setWidth 32
  { value := r
    cy := decide (2 ^ 32 ≤ a.toNat + b.toNat + c.toNat)
    ov := a.msb == b.msb && r.msb != a.msb }

/-- `a - b - c` (R8): the carry is the borrow. -/
def subc (a b : Word) (c : Bool) : Flagged :=
  let r := a - b - (BitVec.ofBool c).setWidth 32
  { value := r
    cy := decide (a.toNat < b.toNat + c.toNat)
    ov := a.msb != b.msb && r.msb != a.msb }

/-- Saturation (R9, R54): an overflowing result becomes the bound on the side of the exact result, whose sign is the
opposite of the wrapped result's. -/
def saturate (f : Flagged) : Word :=
  if f.ov then (if f.value.msb then 0x7FFFFFFF else 0x80000000) else f.value

/-! ### Writing flags -/

/-- PSW with CY, OV, S and Z written. -/
def State.putFlags (s : State) (cy ov sign zero : Bool) : State :=
  { s with psw := putBit (putBit (putBit (putBit s.psw 3 cy) 2 ov) 1 sign) 0 zero }

/-- PSW with OV, S and Z written, CY kept. -/
def State.putOSZ (s : State) (ov sign zero : Bool) : State :=
  { s with psw := putBit (putBit (putBit s.psw 2 ov) 1 sign) 0 zero }

/-- PSW with Z written. -/
def State.putZ (s : State) (zero : Bool) : State := { s with psw := putBit s.psw 0 zero }

/-- The four flags of a sum or difference. -/
def State.putArith (s : State) (f : Flagged) : State := s.putFlags f.cy f.ov f.value.msb (f.value == 0)

/-- The flags of a logical result: OV = 0, S, Z (R299). -/
def State.putLogic (s : State) (r : Word) : State := s.putOSZ false r.msb (r == 0)

/-- The flags of a saturated operation (R54): CY and OV of the operation, S and Z of the stored value, and SAT set when
OV is. -/
def State.putSat (s : State) (f : Flagged) : State :=
  let t := s.putFlags f.cy f.ov (saturate f).msb (saturate f == 0)
  if f.ov then { t with psw := putBit t.psw 4 true } else t

end Sys2Proof.Machine
end

