-- ==== Sys2Proof/Machine/Ppu.lean ====
section
/-! DEFINITION. The peripheral device protection unit (R138 to R148, R161, R890 to R899): which area an address belongs
to, which accesses violate, what a violation records, and the registers. -/
namespace Sys2Proof.Machine

/-! ### Areas -/

/-- The areas of set PPC0 and their bits (R161). -/
def ppc0Areas : List (Region × Nat) :=
  [(⟨0xFFFF6000, 0xFFFF645F⟩, 0), (⟨0xFFFF6480, 0xFFFF6487⟩, 1), (⟨0xFFFF64B0, 0xFFFF64B3⟩, 3),
   (⟨0xFFFF6500, 0xFFFF65FF⟩, 5), (⟨0xFFFF6600, 0xFFFF66FF⟩, 6), (⟨0xFFFF6700, 0xFFFF67FF⟩, 7),
   (⟨0xFFFF6800, 0xFFFF687F⟩, 8), (⟨0xFFFF6900, 0xFFFF697F⟩, 9), (⟨0xFFFF6980, 0xFFFF699F⟩, 10),
   (⟨0xFFFF69A0, 0xFFFF69BF⟩, 11), (⟨0xFFFF6A00, 0xFFFF6AFF⟩, 12), (⟨0xFFFF6B00, 0xFFFF6BFF⟩, 13),
   (⟨0xFFFF6C00, 0xFFFF6DFF⟩, 14), (⟨0xFFFF6E00, 0xFFFF6EFF⟩, 15), (⟨0xFFFF5000, 0xFFFF53FF⟩, 16),
   (⟨0xFFFF5400, 0xFFFF57FF⟩, 17), (⟨0xFFFF5800, 0xFFFF5BFF⟩, 18), (⟨0xFFFF5C00, 0xFFFF5FFF⟩, 19),
   (⟨0xFFFF7000, 0xFFFF70FF⟩, 20), (⟨0xFFFF7100, 0xFFFF71FF⟩, 21), (⟨0xFFFF7200, 0xFFFF72FF⟩, 22),
   (⟨0xFFFF7300, 0xFFFF73FF⟩, 23), (⟨0xFFFF7400, 0xFFFF74FF⟩, 24), (⟨0xFFFF7500, 0xFFFF76FF⟩, 25),
   (⟨0xFFFF7700, 0xFFFF78FF⟩, 26), (⟨0xFFFF7900, 0xFFFF7AFF⟩, 27), (⟨0xFFFF7B00, 0xFFFF7CFF⟩, 28),
   (⟨0xFFFF7D00, 0xFFFF7EFF⟩, 29), (⟨0xFFFF7F00, 0xFFFF7F7F⟩, 30), (⟨0xFFFF7F80, 0xFFFF7FFF⟩, 31)]

/-- Sets PPC1 to PPC8: base and size of the areas of their 32 bits (R161). -/
def ppcSets : List (Fin 9 × Nat × Nat) :=
  [(1, 0xFF400000, 0x10000), (2, 0xFF600000, 0x10000), (3, 0xFF800000, 0x1000), (4, 0xFF820000, 0x1000),
   (5, 0xFFFF8000, 0x100), (6, 0xFFFFA000, 0x100), (7, 0xFFFFC000, 0x100), (8, 0xFFFFE000, 0x100)]

/-- The set and bit that protect an address, if any (R161, R891). -/
def ppcArea (a : Word) : Option (Fin 9 × Nat) :=
  match ppcSets.find? fun p => p.2.1 ≤ a.toNat && a.toNat < p.2.1 + 32 * p.2.2 with
  | some (n, base, size) => some (n, (a.toNat - base) / size)
  | none => (ppc0Areas.find? fun p => p.1.has a).map fun p => (0, p.2)

/-! ### Violations -/

/-- What bit k of the four registers of a set makes a device (R891). -/
inductive DeviceType where
  | special
  | os
  /-- `v` and `t` are the bits of PPVn and PPTn. -/
  | general (v t : Bool)
  deriving DecidableEq, Repr

/-- The type of the device of a set and bit (R891). -/
def PpuRegs.deviceType (p : PpuRegs) (n : Fin 9) (k : Nat) : DeviceType :=
  if (p.pps.get n).getLsbD k then .special
  else if (p.ppp.get n).getLsbD k then .os
  else .general ((p.ppv.get n).getLsbD k) ((p.ppt.get n).getLsbD k)

/-- The violation predicate (R892). `nt` is PSW.PP. -/
def DeviceType.violates (nt write : Bool) : DeviceType → Bool
  | .special => true
  | .os => nt
  | .general v t => nt && v && (t || write)

/-- Bits 10, 9 and 8 of a violation cause register: word, halfword or byte access (R142). -/
def sizeBits (size : Nat) : Word := if size = 4 then bitAt 10 else if size = 2 then bitAt 9 else bitAt 8
/-- Bits 5 and 4 of a violation cause register: read or write access (R142). -/
def kindBits (write : Bool) : Word := if write then bitAt 4 else bitAt 5

/-- Bits 15 to 12 of VPNECR, the type of the device (R142, R894). -/
def DeviceType.causeBits : DeviceType → Word
  | .special => bitAt 15
  | .os => bitAt 14
  | .general v t => if v && t then bitAt 13 else if v then bitAt 12 else 0

/-- What a violation in the T state records (R893). -/
def PpuRegs.recordT (tid a : Word) (size : Nat) (write : Bool) (p : PpuRegs) : PpuRegs :=
  if p.vptecr.getLsbD 0 then p
  else { p with vptecr := bitAt 15 ||| sizeBits size ||| kindBits write ||| 1, vptadr := a, vpttid := tid }

/-- What a violation in the NT state records, and the report of the PPI exception unless it is masked (R894). -/
def PpuRegs.recordNt (tid a : Word) (size : Nat) (write : Bool) (d : DeviceType) (p : PpuRegs) : PpuRegs :=
  let q := if p.vpnecr.getLsbD 0 then p
    else { p with vpnecr := d.causeBits ||| sizeBits size ||| kindBits write ||| 1, vpnadr := a, vpntid := tid }
  if p.ppm.getLsbD 0 then q else { q with ppec := 1 }

/-! ### The registers -/

/-- The bits of set PPC0 that Appendix D calls fixed: 2, 4 to 6, 12 to 19 (R148). -/
def ppc0Fixed : Word := 0x000FF074#32

/-- The word at a register offset from FFFF5100H (R138). -/
def PpuRegs.read (p : PpuRegs) (off : Nat) : Word :=
  match off / 4 with
  | 0 => p.ppm
  | 1 => p.ppec
  | 4 => p.vpnecr
  | 5 => p.vpnadr
  | 6 => p.vpntid
  | 8 => p.vptecr
  | 9 => p.vptadr
  | 10 => p.vpttid
  | k =>
    if h : 16 ≤ k ∧ (k - 16) / 4 < 9 then
      match k % 4 with
      | 0 => p.ppv[(k - 16) / 4]
      | 1 => p.ppt[(k - 16) / 4]
      | 2 => p.ppp[(k - 16) / 4]
      | _ => p.pps[(k - 16) / 4]
    else 0

/-- A word with the bits that `lane` selects replaced. -/
def mergeBits (old lane v : Word) : Word := old &&& ~~~lane ||| v &&& lane

/-- A write to one of the nine registers of a kind: the bits that Appendix D fixes in set 0 (R148) and those that the product
fixes (PERIPHERAL_MAP, R6) ignore it. -/
def writeSet (fixed : Vector Word 9) (n : Fin 9) (lane v : Word) (old : Vector Word 9) : Vector Word 9 :=
  let lane := lane &&& ~~~fixed.get n &&& if n = 0 then ~~~ppc0Fixed else 0xFFFFFFFF
  old.set n (mergeBits (old.get n) lane v)

/-- A write of `v` to the bits that `lane` selects of the register at an offset from FFFF5100H: PPEC can only be
cleared (R141), reserved bits stay 0 (D4), fixed bits ignore it (R148). -/
def PpuRegs.write (cfg : Config) (off : Nat) (lane v : Word) (p : PpuRegs) : PpuRegs :=
  match off / 4 with
  | 0 => { p with ppm := mergeBits p.ppm (lane &&& 1) v }
  | 1 => { p with ppec := p.ppec &&& ~~~(lane &&& ~~~v) }
  | 4 => { p with vpnecr := mergeBits p.vpnecr (lane &&& 0xF731) v }
  | 5 => { p with vpnadr := mergeBits p.vpnadr lane v }
  | 6 => { p with vpntid := mergeBits p.vpntid lane v }
  | 8 => { p with vptecr := mergeBits p.vptecr (lane &&& 0x8731) v }
  | 9 => { p with vptadr := mergeBits p.vptadr lane v }
  | 10 => { p with vpttid := mergeBits p.vpttid lane v }
  | k =>
    if h : 16 ≤ k ∧ (k - 16) / 4 < 9 then
      let n : Fin 9 := ⟨(k - 16) / 4, h.2⟩
      match k % 4 with
      | 0 => { p with ppv := writeSet cfg.ppvFixed n lane v p.ppv }
      | 1 => { p with ppt := writeSet cfg.pptFixed n lane v p.ppt }
      | 2 => { p with ppp := writeSet cfg.pppFixed n lane v p.ppp }
      | _ => { p with pps := writeSet cfg.ppsFixed n lane v p.pps }
    else p

end Sys2Proof.Machine
end

