-- ==== Sys2Proof/Machine/Tsu.lean ====
section
/-! DEFINITION. The timing supervision unit (R149 to R155, R910 to R920): six counters, their registers, counting, and
what changes of PSW.ID, exceptions and returns do to them. -/
namespace Sys2Proof.Machine

/-! ### One counter -/

/-- TSCCFGn.RES (R150). -/
def Counter.res (c : Counter) : BitVec 3 := c.cfg.extractLsb' 24 3
/-- TSCCFGn.CTM: 00 normal, 01 global interrupt lock, 10 runtime supervision (R150). 11 is RFU and the spec gives it no
behaviour: here it is as 00, never started or stopped by an event (DESIGN CHOICE, log entry 16). -/
def Counter.ctm (c : Counter) : BitVec 2 := c.cfg.extractLsb' 20 2
/-- TSCCFGn.ARM, auto reload. -/
def Counter.arm (c : Counter) : Bool := c.cfg.getLsbD 18
/-- TSCCFGn.EXM, exception mode. -/
def Counter.exm (c : Counter) : Bool := c.cfg.getLsbD 17
/-- TSCCFGn.UDM: true counts down. -/
def Counter.udm (c : Counter) : Bool := c.cfg.getLsbD 16
/-- TSCCFGn.ES, exception cause. -/
def Counter.es (c : Counter) : Bool := c.cfg.getLsbD 9
/-- TSCCFGn.VS, violation detected. -/
def Counter.vs (c : Counter) : Bool := c.cfg.getLsbD 8
/-- TSCCFGn.FEACT. -/
def Counter.feact (c : Counter) : Bool := c.cfg.getLsbD 2
/-- TSCCFGn.EIACT. -/
def Counter.eiact (c : Counter) : Bool := c.cfg.getLsbD 1
/-- TSCCFGn.ACT, the counter operates. -/
def Counter.act (c : Counter) : Bool := c.cfg.getLsbD 0

/-- The counter with bit `n` of TSCCFGn made `b`. -/
def Counter.putCfg (c : Counter) (n : Nat) (b : Bool) : Counter := { c with cfg := putBit c.cfg n b }

/-- Reload: TSCRLDn.VAL goes to TSCCNTn.VAL (R914). -/
def Counter.reload (c : Counter) : Counter := { c with cnt := c.rld }

/-- CPU clocks per count (R150); the RFU resolutions count as 1024 (spec/93, "RES RFU values"). -/
def Counter.period (c : Counter) : Nat :=
  match c.res with
  | 0#3 => 1
  | 1#3 => 4
  | 2#3 => 16
  | 3#3 => 64
  | 4#3 => 256
  | _ => 1024

/-- One count (R911), and the comparison that follows it (R912). -/
def Counter.count (c : Counter) : Counter :=
  let next := if c.udm then c.cnt - 1 else c.cnt + 1
  let wraps := if c.udm then c.cnt == 0 else next == 0
  let c := if wraps then c.putCfg 10 true else c
  if next = c.cmp then
    let c := c.putCfg 8 true
    if c.arm then c.reload else { c with cnt := next }
  else { c with cnt := next }

/-- Several counts. -/
def Counter.countN : Nat → Counter → Counter
  | 0, c => c
  | n + 1, c => Counter.countN n c.count

/-- The counter after some clocks: it counts while ACT = 1, once in every period (R911). Of a phase left by a longer period
only what lies within the present one counts, so that a step makes at most one count more than its clocks give. -/
def Counter.tick (clocks : Nat) (c : Counter) : Counter :=
  if c.act then
    let total := c.phase % c.period + clocks
    { Counter.countN (total / c.period) c with phase := total % c.period }
  else c

/-- The bits of TSCCFGn that software writes: RES, CTM, ARM, EXM, UDM, FEACT, EIACT, ACT (R150). -/
def tscWritable : Word := 0x07370007#32
/-- The bits of TSCCFGn that software can only clear: OS, ES, VS (R150). -/
def tscClearOnly : Word := 0x00000700#32

/-- A write of `v` to the bits of TSCCFGn that `lane` selects (R150). ACT stays 0 while MPE = 0 (R852); a 1 in bit 3
reloads (R914). -/
def Counter.writeCfg (mpe : Bool) (lane v : Word) (c : Counter) : Counter :=
  let plain := lane &&& tscWritable
  let stored := c.cfg &&& ~~~plain ||| v &&& plain
  let cleared := stored &&& ~~~(lane &&& tscClearOnly &&& ~~~v)
  let c := { c with cfg := if mpe then cleared else cleared &&& ~~~1#32 }
  if (lane &&& v).getLsbD 3 then c.reload else c

/-- A write to the selected bits of TSCRLDn: VAL, and bits 31 to 28 as bits 3 to 0 of TSCCFGn (R155). -/
def Counter.writeRld (mpe : Bool) (lane v : Word) (c : Counter) : Counter :=
  let plain := lane.setWidth 28
  Counter.writeCfg mpe (lane >>> 28) (v >>> 28) { c with rld := c.rld &&& ~~~plain ||| v.setWidth 28 &&& plain }

/-- A write to the selected bits of TSCCNTn (R153). -/
def Counter.writeCnt (lane v : Word) (c : Counter) : Counter :=
  { c with cnt := c.cnt &&& ~~~lane.setWidth 28 ||| v.setWidth 28 &&& lane.setWidth 28 }

/-- A write to the selected bits of TSCCMPn (R154). -/
def Counter.writeCmp (lane v : Word) (c : Counter) : Counter :=
  { c with cmp := c.cmp &&& ~~~lane.setWidth 28 ||| v.setWidth 28 &&& lane.setWidth 28 }

/-- TSCRLDn as read: VAL, with FEACT, EIACT and ACT in bits 30 to 28 (R155). -/
def Counter.readRld (c : Counter) : Word := c.rld.setWidth 32 ||| (c.cfg &&& 7) <<< 28

/-- PSW.ID changes while the counter supervises the global interrupt lock (R916). In every other mode, CTM = 11 among them
(log entry 16), nothing happens. -/
def Counter.idChange (mpe new : Bool) (c : Counter) : Counter :=
  if c.ctm = 0b01#2 then (if new then (c.putCfg 0 mpe).reload else c.putCfg 0 false) else c

/-- An EI level exception is acknowledged during runtime supervision (R917); nothing happens in another mode, CTM = 11
among them (log entry 16). -/
def Counter.enterEi (c : Counter) : Counter :=
  if c.ctm = 0b10#2 then (c.putCfg 1 c.act).putCfg 0 false else c
/-- An FE level exception is acknowledged during runtime supervision (R917); nothing happens in another mode, CTM = 11
among them (log entry 16). -/
def Counter.enterFe (c : Counter) : Counter :=
  if c.ctm = 0b10#2 then (c.putCfg 2 c.act).putCfg 0 false else c
/-- EIRET during runtime supervision (R917). -/
def Counter.leaveEi (mpe : Bool) (c : Counter) : Counter :=
  if c.ctm = 0b10#2 then c.putCfg 0 (c.eiact && mpe) else c
/-- FERET during runtime supervision (R917). -/
def Counter.leaveFe (mpe : Bool) (c : Counter) : Counter :=
  if c.ctm = 0b10#2 then c.putCfg 0 (c.feact && mpe) else c

/-- The TSI exception is acknowledged: a counter that was reporting moves VS to ES (R919). -/
def Counter.acknowledge (c : Counter) : Counter :=
  if c.exm && c.vs then (c.putCfg 9 true).putCfg 8 false else c

/-! ### The unit -/

/-- The same change to all six counters. -/
def TsuRegs.each (f : Counter → Counter) (t : TsuRegs) : TsuRegs := { t with counters := t.counters.map f }

/-- A change to counter `n`. -/
def TsuRegs.modify (n : Nat) (f : Counter → Counter) (t : TsuRegs) : TsuRegs :=
  if h : n < 6 then { t with counters := t.counters.set n (f t.counters[n]) } else t

/-- The TSI request (R913): a counter with EXM = 1 and VS = 1, unless TSECESUP suppresses it. -/
def TsuRegs.request (t : TsuRegs) : Bool := !t.tsec.getLsbD 0 && t.counters.toList.any fun c => c.exm && c.vs

/-- The TSI exception is acknowledged (R919): TSECESUP is set. -/
def TsuRegs.acknowledge (t : TsuRegs) : TsuRegs := { t.each Counter.acknowledge with tsec := 1 }

/-- PSW.ID goes from `old` to `new` (R916). -/
def TsuRegs.idChange (mpe old new : Bool) (t : TsuRegs) : TsuRegs :=
  if old = new then t else t.each (Counter.idChange mpe new)

/-- TSECR: bit n is ESn (R152). -/
def TsuRegs.readTsecr (t : TsuRegs) : Word :=
  (t.counters.toList.zipIdx.foldl (fun w p => putBit w p.2 p.1.es) 0)

/-- The word at a register offset from FFFF5000H (R149). -/
def TsuRegs.read (t : TsuRegs) (off : Nat) : Word :=
  if off < 4 then t.tsec
  else if off < 8 then t.readTsecr
  else if off < 0x20 then 0
  else
    match t.counters.toList[(off - 0x20) / 16]? with
    | none => 0
    | some c =>
      match off / 4 % 4 with
      | 0 => c.cfg
      | 1 => c.cnt.setWidth 32
      | 2 => c.cmp.setWidth 32
      | _ => c.readRld

/-- A write to TSECR: clearing bit n clears ESn (R152). -/
def TsuRegs.writeTsecr (lane v : Word) (t : TsuRegs) : TsuRegs :=
  { t with counters := t.counters.mapIdx fun n c =>
      if lane.getLsbD n && !v.getLsbD n then c.putCfg 9 false else c }

/-- A write of `v` to the bits that `lane` selects of the register at an offset from FFFF5000H. -/
def TsuRegs.write (mpe : Bool) (off : Nat) (lane v : Word) (t : TsuRegs) : TsuRegs :=
  if off < 4 then { t with tsec := t.tsec &&& ~~~lane ||| v &&& lane &&& 1 }
  else if off < 8 then t.writeTsecr lane v
  else if off < 0x20 then t
  else
    t.modify ((off - 0x20) / 16)
      (match off / 4 % 4 with
       | 0 => Counter.writeCfg mpe lane v
       | 1 => Counter.writeCnt lane v
       | 2 => Counter.writeCmp lane v
       | _ => Counter.writeRld mpe lane v)

end Sys2Proof.Machine
end

