-- ==== Sys2Proof/Machine/Ops.lean ====
section
/-! DEFINITION. The named operations every meaning is written in: registers, PSW, taking an exception and returning
from one, protection, and memory. -/
namespace Sys2Proof.Machine

/-! ### General-purpose registers (R30, R31) -/

/-- The value of a register; r0 reads 0. -/
def State.reg (s : State) (r : Reg) : Word := if r = 0 then 0 else s.regs.get ⟨r.toNat, r.isLt⟩

/-- The state with a register written; a write to r0 is discarded. -/
def State.setReg (s : State) (r : Reg) (v : Word) : State :=
  if r = 0 then s else { s with regs := s.regs.set r.toNat v r.isLt }

/-- The doubleword of a pair (R178). -/
def State.pair (s : State) (p : Pair) : DWord := s.reg p.hi ++ s.reg p.lo

/-- The state with a pair written (R178). -/
def State.setPair (s : State) (p : Pair) (v : DWord) : State :=
  (s.setReg p.lo (v.extractLsb' 0 32)).setReg p.hi (v.extractLsb' 32 32)

/-- The element pointer, r30 (R32). -/
def epReg : Reg := 30
/-- The stack pointer, r3 (R32). -/
def spReg : Reg := 3

/-! ### Program counter (R33, R34, R36) -/

/-- The state with the program counter written. -/
def State.setPc (s : State) (a : Word) : State := { s with pc := pcValue s.cfg a }

/-- The state after an instruction of `n` bytes that does not branch. -/
def State.advance (s : State) (n : Nat) : State := s.setPc (s.pc + BitVec.ofNat 32 n)

/-! ### Free values (log entry 3) -/

/-- The state with the next free value used. -/
def State.bump (s : State) : State := { s with free := s.free + 1 }

/-! ### PSW -/

/-- PSW written as a whole. Reserved bits stay 0 (R56); the protection bits are fixed to 0 while MPE = 0 (R852) and NPV
while AUE = 0 (R853); a change of ID acts on the counters that supervise it (R916). -/
def State.putPsw (s : State) (v : Word) : State :=
  let v := v &&& pswMask
  let v := if s.mpe then v else v &&& ~~~protMask
  let v := if s.aue then v else v &&& ~~~bitAt 18
  { s with psw := v, tsu := s.tsu.idChange s.mpe s.fID (v.getLsbD 5) }

/-! ### Taking an exception (R1014 to R1021) -/

/-- The level of an exception: which registers save the context (R1008). -/
inductive Level where
  | ei
  | fe
  deriving DecidableEq, Repr

/-- An exception cause: one row of R1001, without its acknowledgement condition. -/
structure Exc where
  level : Level
  /-- The exception code. -/
  code : Word
  /-- The offset of the handler from EH_BASE. -/
  offset : Word
  /-- It is an interrupt: EP becomes 0 (R1036). -/
  interrupt : Bool
  /-- It is a processor protection exception: the protection bits are cleared whatever AUE is (R1018). -/
  protection : Bool
  deriving DecidableEq, Repr

/-- The context an exception saves: the return PC, PSW and the cause, with its half of ECR (R1014 to R1017). -/
def State.saveContext (s : State) (e : Exc) (ret : Word) : State :=
  match e.level with
  | .ei =>
    { s with main := { s.main with
        eipc := limitAddr s.cfg ret, eipsw := s.psw, eiic := e.code
        ecr := s.main.ecr &&& 0xFFFF0000#32 ||| e.code &&& 0xFFFF#32 } }
  | .fe =>
    { s with main := { s.main with
        fepc := limitAddr s.cfg ret, fepsw := s.psw, feic := e.code
        ecr := s.main.ecr &&& 0xFFFF#32 ||| e.code <<< 16 } }

/-- PSW after an exception is acknowledged: ID, NP for the FE level, EP, and the protection bits (R1018, R1036). -/
def State.excPsw (s : State) (e : Exc) : Word :=
  let v := putBit (putBit s.psw 5 true) 6 (!e.interrupt)
  let v := if e.level = .fe then putBit v 7 true else v
  if s.aue || e.protection then v &&& ~~~protMask else v

/-- The counters in runtime supervision mode when an exception is acknowledged (R917). -/
def State.tsuEnter (s : State) (l : Level) : State :=
  { s with tsu := s.tsu.each (match l with | .ei => Counter.enterEi | .fe => Counter.enterFe) }

/-- Everything that acknowledging an exception does but for the program counter. -/
def State.enter (s : State) (e : Exc) (ret : Word) : State :=
  ((s.saveContext e ret).putPsw (s.excPsw e)).tsuEnter e.level

/-- Taking an exception: the context is saved and the machine goes on at EH_BASE + offset (R1019). -/
def State.takeException (s : State) (e : Exc) (ret : Word) : State :=
  (s.enter e ret).setPc (s.main.ehBase + e.offset)

/-- The exceptions of R1001, by row. -/
def Exc.fenmi : Exc := ⟨.fe, 0x20, 0x20, true, false⟩
@[inherit_doc Exc.fenmi] def Exc.syserr (k : Fin 4) : Exc := ⟨.fe, 0x230 + BitVec.ofNat 32 k, 0x30, false, false⟩
@[inherit_doc Exc.fenmi] def Exc.ppi : Exc := ⟨.fe, 0x432, 0x30, false, true⟩
@[inherit_doc Exc.fenmi] def Exc.tsi : Exc := ⟨.fe, 0x433, 0x30, false, true⟩
@[inherit_doc Exc.fenmi] def Exc.feint : Exc := ⟨.fe, 0x10, 0x10, true, false⟩
@[inherit_doc Exc.fenmi] def Exc.fpi : Exc := ⟨.ei, 0x72, 0x70, false, false⟩
@[inherit_doc Exc.fenmi] def Exc.mip : Exc := ⟨.fe, 0x430, 0x30, false, true⟩
@[inherit_doc Exc.fenmi] def Exc.mep (k : Fin 4) : Exc := ⟨.fe, 0x330 + BitVec.ofNat 32 k, 0x30, false, false⟩
@[inherit_doc Exc.fenmi] def Exc.mdp : Exc := ⟨.fe, 0x431, 0x30, false, true⟩
@[inherit_doc Exc.fenmi] def Exc.fpp : Exc := ⟨.ei, 0x71, 0x70, false, false⟩
/-- UCPOP with the code 530H + k (R1032). -/
def Exc.ucpop (k : BitVec 3) : Exc := ⟨.fe, 0x530 + k.setWidth 32, 0x30, false, false⟩
/-- The reserved instruction exception (R1034). -/
def Exc.rie : Exc := ⟨.fe, 0x130, 0x30, false, false⟩
/-- The FE level software exception (R592). -/
def Exc.fetrap (v : BitVec 4) : Exc := ⟨.fe, 0x30 + v.setWidth 32, 0x30, false, false⟩
/-- The EI level software exception: offset 40H for vectors 0 to 0FH, 50H above (R613). -/
def Exc.trap (v : BitVec 5) : Exc := ⟨.ei, 0x40 + v.setWidth 32, if v.toNat ≤ 15 then 0x40 else 0x50, false, false⟩
/-- The system call exception; its handler address does not come from EH_BASE (R1021). -/
def Exc.syscall (v : BitVec 8) : Exc := ⟨.ei, 0x8000 + v.setWidth 32, 0, false, false⟩
/-- The EI level maskable interrupt of channel `n`: one handler for all channels when RINT = 1 (R1020). -/
def Exc.int (rint : Bool) (n : Byte) : Exc :=
  let off : Word := 0x80 + n.setWidth 32 <<< 4
  ⟨.ei, off, if rint then 0x80 else off, true, false⟩

/-! ### Returning from an exception (R605, R1023, R1024) -/

/-- PSW and the program counter are loaded from a pair of save registers. -/
def State.returnTo (s : State) (pc psw : Word) : State := (s.putPsw psw).setPc pc

/-- The end of the handler is reported when EP = 0 (R1024). -/
def State.reportEnd (s : State) : State :=
  if s.fEP then s else { s with reports := .endOfHandler :: s.reports }

/-- The counters in runtime supervision mode when a handler returns (R917). -/
def State.tsuLeave (s : State) (l : Level) : State :=
  { s with tsu := s.tsu.each (match l with | .ei => Counter.leaveEi s.mpe | .fe => Counter.leaveFe s.mpe) }

/-! ### The outcome of a memory access -/

/-- An access gives a value and the state after it, or takes an exception (the state is the one at the handler), or
touches a device that nobody describes. -/
inductive Acc (α : Type) where
  | ok (a : α) (s : State)
  | trap (s : State)
  | refused (r : Refusal)

/-- One access after another; a trap or refusal ends the sequence. -/
def Acc.bind {α β : Type} (x : Acc α) (f : α → State → Acc β) : Acc β :=
  match x with
  | .ok a s => f a s
  | .trap s => .trap s
  | .refused r => .refused r

/-- The outcome of an instruction that ends with these accesses: `f` completes it. -/
def Acc.finish {α : Type} (x : Acc α) (f : α → State → State) : Host.Outcome State Fault Refusal :=
  match x with
  | .ok a s => .next (f a s)
  | .trap s => .next s
  | .refused r => .refused r

/-! ### Memory protection (R870 to R882) -/

/-- A protection area that exists: its range, both ends included, and what it grants. -/
structure Grant where
  lo : Nat
  hi : Nat
  read : Bool
  write : Bool
  exec : Bool
  sp : Bool
  deriving DecidableEq, Repr

/-- The range of an area, if it exists (R871, R875). -/
def Area.range (p : Area) : Option (Nat × Nat) :=
  let al := p.lower &&& 0xFFFFFFF0#32
  let au := p.upper ||| 0xF#32
  let lower := if p.lower.getLsbD 2 then al &&& ~~~au else al
  let upper := if p.lower.getLsbD 2 then al ||| au else au
  if p.lower.getLsbD 0 && decide (lower ≤ upper) then some (lower.toNat, upper.toNat) else none

/-- What an instruction area grants: read by R, execution by X, never a write (R131). -/
def Area.ipaGrant (sp : Bool) (p : Area) : Option Grant :=
  p.range.map fun r => ⟨r.1, r.2, p.upper.getLsbD 1, false, p.upper.getLsbD 0, sp⟩

/-- What a data area grants: read by R, write by W, never execution (R133). -/
def Area.dpaGrant (sp : Bool) (p : Area) : Option Grant :=
  p.range.map fun r => ⟨r.1, r.2, p.upper.getLsbD 1, p.upper.getLsbD 2, false, sp⟩

/-- The areas that exist. The S bit is 1 in DPA0 and the opposite of MPM.SPS in the others (R134). -/
def State.grants (s : State) : List Grant :=
  s.prot.ipa.toList.filterMap (Area.ipaGrant (!s.sps)) ++
    (s.prot.dpa.toList.zipIdx.filterMap fun p => p.1.dpaGrant (p.2 == 0 || !s.sps))

/-- The whole access lies in the area (R871, R877). -/
def Grant.contains (g : Grant) (a size : Nat) : Bool := 0 < size && g.lo ≤ a && a + size - 1 ≤ g.hi

/-- Some existing area that contains the range grants `p` (R873, R874). -/
def State.granted (s : State) (a size : Nat) (p : Grant → Bool) : Bool :=
  s.grants.any fun g => g.contains a size && p g

/-- A data access is permitted (R873). `sp`: its base register is r3. -/
def State.permits (s : State) (a : Word) (size : Nat) (write sp : Bool) : Bool :=
  !s.fDMP ||
    (s.granted a.toNat size (fun g => if write then g.write else g.read) && (!sp || s.granted a.toNat size Grant.sp))

/-- The fetch of a halfword is permitted (R872). -/
def State.permitsFetch (s : State) (a : Word) : Bool := !s.fIMP || s.granted a.toNat 2 Grant.exec

/-- A halfword or word access that is not at a multiple of its size. -/
def misaligned (a : Word) (size : Nat) : Bool := a.toNat % size != 0

/-- VMECR as an MDP exception stores it (R883). -/
def mdpCause (a : Word) (size : Nat) (write rmw sp : Bool) : Word :=
  (if misaligned a size then bitAt 6 else 0) ||| (if rmw then bitAt 5 else 0) ||| (if sp then bitAt 4 else 0) |||
    (if write then bitAt 3 else bitAt 2)

/-- The MDP exception: the violation registers, then the exception, which returns to the instruction (R882). -/
def State.raiseMdp (s : State) (a cause : Word) : State :=
  State.takeException { s with prot := { s.prot with vmecr := cause, vmtid := s.prot.tid, vmadr := a } } .mdp s.pc

/-- The MIP exception (R881). -/
def State.raiseMip (s : State) : State :=
  State.takeException { s with prot := { s.prot with vmecr := 2, vmtid := s.prot.tid, vmadr := s.pc } } .mip s.pc

/-! ### What lies behind an address (R221, R248) -/

/-- What answers an access to an address. -/
inductive MemKind where
  | ram
  /-- A register of the timing supervision unit, at an offset from FFFF5000H. -/
  | tsu (off : Nat)
  /-- A register of the peripheral protection unit, at an offset from FFFF5100H. -/
  | ppu (off : Nat)
  /-- A device the spec names and does not describe. -/
  | device
  /-- Nothing (U10). -/
  | nothing
  deriving DecidableEq, Repr

/-- The offsets of the TSU registers from FFFF5000H (R149). -/
def tsuOffset (off : Nat) : Bool := off < 8 || (0x20 ≤ off && off < 0x80)
/-- The offsets of the PPU registers from FFFF5100H (R138). -/
def ppuOffset (off : Nat) : Bool :=
  off < 8 || (0x10 ≤ off && off < 0x1C) || (0x20 ≤ off && off < 0x2C) || (0x40 ≤ off && off < 0xD0)

/-- What lies behind an address. -/
def memKind (cfg : Config) (a : Word) : MemKind :=
  let n := a.toNat
  if 0xFFFF5000 ≤ n && tsuOffset (n - 0xFFFF5000) then .tsu (n - 0xFFFF5000)
  else if 0xFFFF5100 ≤ n && ppuOffset (n - 0xFFFF5100) then .ppu (n - 0xFFFF5100)
  else if cfg.deviceRegions.any (Region.has · a) then .device
  else if cfg.unbackedRegions.any (Region.has · a) then .nothing
  else .ram

/-- Byte `k` of a word (R225). -/
def byteOf (w : Word) (k : Nat) : Byte := w.extractLsb' (8 * k) 8
/-- A byte put at byte `k` of a word of zeros. -/
def atByte (b : Byte) (k : Nat) : Word := b.setWidth 32 <<< (8 * k)

/-- One byte is read. -/
def State.readByte (s : State) (a : Word) : Acc Byte :=
  match memKind s.cfg a with
  | .ram => .ok (s.mem.read a.toNat) s
  | .tsu off => .ok (byteOf (s.tsu.read off) (off % 4)) s
  | .ppu off => .ok (byteOf (s.ppu.read off) (off % 4)) s
  | .device => .refused (.undescribedDevice a)
  | .nothing => .ok ((freeWord s.free).setWidth 8) s.bump

/-- One byte is written. -/
def State.writeByte (s : State) (a : Word) (b : Byte) : Acc Unit :=
  match memKind s.cfg a with
  | .ram => .ok () { s with mem := s.mem.write a.toNat b }
  | .tsu off =>
    .ok () { s with tsu := s.tsu.write s.mpe off (atByte 0xFF (off % 4)) (atByte b (off % 4)) }
  | .ppu off => .ok () { s with ppu := s.ppu.write s.cfg off (atByte 0xFF (off % 4)) (atByte b (off % 4)) }
  | .device => .refused (.undescribedDevice a)
  | .nothing => .ok () s

/-- MemRead (R226): `n` bytes in ascending order, the first the least significant. -/
def State.readBytes (s : State) (a : Word) : Nat → Acc Word
  | 0 => .ok 0 s
  | n + 1 =>
    (s.readByte a).bind fun b s =>
    (s.readBytes (a + 1) n).bind fun rest s => .ok (rest <<< 8 ||| b.setWidth 32) s

/-- MemWrite (R226): the low `n` bytes of a word in ascending order. -/
def State.writeBytes (s : State) (a v : Word) : Nat → Acc Unit
  | 0 => .ok () s
  | n + 1 => (s.writeByte a (v.setWidth 8)).bind fun _ s => s.writeBytes (a + 1) (v >>> 8) n

/-! ### Peripheral device protection (R890 to R896) -/

/-- Whether the access goes ahead, and the state after it is judged: invalidated while a PPI exception is reported in the
NT state (R895), else blocked and recorded when it violates (R892 to R894). -/
def State.judge (s : State) (a : Word) (size : Nat) (write : Bool) : Bool × State :=
  if s.fPP && s.ppu.ppec.getLsbD 0 then (false, s)
  else
    match ppcArea a with
    | none => (true, s)
    | some (n, k) =>
      let d := s.ppu.deviceType n k
      if d.violates s.fPP write then
        (false, { s with ppu := if s.fPP then s.ppu.recordNt s.prot.tid a size write d
                                else s.ppu.recordT s.prot.tid a size write })
      else (true, s)

/-- The low `size` bytes of a word. -/
def lowBytes (w : Word) (size : Nat) : Word := w &&& BitVec.ofNat 32 (2 ^ (8 * size) - 1)

/-- A read that memory protection has let through. The flag says whether it was performed; if not, the whole word is free
(R893 to R895, U20). -/
def State.performRead (s : State) (a : Word) (size : Nat) : Acc (Word × Bool) :=
  match s.judge a size false with
  | (true, s) => (s.readBytes a size).bind fun v s => .ok (v, true) s
  | (false, s) => .ok (freeWord s.free, false) s.bump

/-- A write that memory protection has let through; a blocked one changes nothing. -/
def State.performWrite (s : State) (a v : Word) (size : Nat) : Acc Unit :=
  match s.judge a size true with
  | (true, s) => s.writeBytes a v size
  | (false, s) => .ok () s

/-! ### Data accesses (R901) -/

/-- A data read: the value, `ext` of the low `size` bytes of a word, or a free word where the access is not performed
(R367, U20). -/
def State.loadAs (s : State) (a : Word) (size : Nat) (sp : Bool) (ext : Word → Word) : Acc Word :=
  if s.permits a size false sp then (s.performRead a size).bind fun v s => .ok (if v.2 then ext v.1 else v.1) s
  else .trap (s.raiseMdp a (mdpCause a size false false sp))

/-- A data read: the value in the low `size` bytes of a word. -/
def State.load (s : State) (a : Word) (size : Nat) (sp : Bool) : Acc Word := s.loadAs a size sp id

/-- A data write of the low `size` bytes of a word. -/
def State.store (s : State) (a v : Word) (size : Nat) (sp : Bool) : Acc Unit :=
  if s.permits a size true sp then s.performWrite a v size
  else .trap (s.raiseMdp a (mdpCause a size true false sp))

/-- A read-modify-write (R246, R878): `f` gives what to write from what is read. Both permissions are checked before the
read; a read that is not performed suppresses the write (D28). The flag says whether the read was performed. -/
def State.modify (s : State) (a : Word) (size : Nat) (sp : Bool) (f : Word → Word) : Acc (Word × Bool) :=
  if s.permits a size false sp && s.permits a size true sp then
    (s.performRead a size).bind fun v s =>
      if v.2 then (s.performWrite a (f v.1) size).bind fun _ s => .ok v s else .ok v s
  else .trap (s.raiseMdp a (mdpCause a size false true sp))

end Sys2Proof.Machine
end

