-- ==== Sys2Proof/Machine/SysReg.lean ====
section
/-! DEFINITION. The system registers: which register a number names in the selected bank (R37 to R42, R67, R75, R76, R121
to R123, R170), what reading one gives, and what writing one does. -/
namespace Sys2Proof.Machine

/-- The registers that LDSR and STSR can name. -/
inductive SysReg where
  | eipc | eipsw | fepc | fepsw | ecr | psw | sccfg | scbp | eiic | feic | ctpc | ctpsw | ctbp
  | eiwr | fewr | dbwr | bsel
  | swCtl | swCfg | swBase | ehCfg | ehReset | ehBase
  | mpm | mpc | tid | vsecr | vstid | vsadr | vmecr | vmtid | vmadr | mca | mcs | mcc | mcr
  | ipaL (n : Fin 5) | ipaU (n : Fin 5) | dpaL (n : Fin 6) | dpaU (n : Fin 6)
  | fpsr | fpepc | fpst | fpcc | fpcfg | fpec
  /-- A reserved or debug entry (R39, D2, D6). -/
  | reserved
  deriving DecidableEq, Repr

/-! ### Banks -/

/-- The main bank (R42). -/
def mainBank (n : Nat) : SysReg :=
  match n with
  | 0 => .eipc
  | 1 => .eipsw
  | 2 => .fepc
  | 3 => .fepsw
  | 4 => .ecr
  | 5 => .psw
  | 11 => .sccfg
  | 12 => .scbp
  | 13 => .eiic
  | 14 => .feic
  | 16 => .ctpc
  | 17 => .ctpsw
  | 20 => .ctbp
  | _ => .reserved

/-- Exception handler switching bank 0 (R67). -/
def ehsw0Bank (n : Nat) : SysReg :=
  match n with
  | 0 => .swCtl
  | 1 => .swCfg
  | 3 => .swBase
  | _ => .reserved

/-- Exception handler switching bank 1 (R67). -/
def ehsw1Bank (n : Nat) : SysReg :=
  match n with
  | 1 => .ehCfg
  | 2 => .ehReset
  | 3 => .ehBase
  | _ => .reserved

/-- The protection area registers, numbers 6 to 27 of the setting bank and of the paging bank (R122, R123). -/
def areaBank (n : Nat) : SysReg :=
  if 6 ≤ n ∧ n < 16 then
    (if n % 2 = 0 then .ipaL (Fin.ofNat 5 ((n - 6) / 2)) else .ipaU (Fin.ofNat 5 ((n - 6) / 2)))
  else if 16 ≤ n ∧ n < 28 then
    (if n % 2 = 0 then .dpaL (Fin.ofNat 6 ((n - 16) / 2)) else .dpaU (Fin.ofNat 6 ((n - 16) / 2)))
  else .reserved

/-- The processor protection violation bank (R121). -/
def violationBank (n : Nat) : SysReg :=
  match n with
  | 0 => .vsecr
  | 1 => .vstid
  | 2 => .vsadr
  | 4 => .vmecr
  | 5 => .vmtid
  | 6 => .vmadr
  | 24 => .mca
  | 25 => .mcs
  | 26 => .mcc
  | 27 => .mcr
  | _ => .reserved

/-- The processor protection setting bank (R122). -/
def settingBank (n : Nat) : SysReg :=
  match n with
  | 0 => .mpm
  | 1 => .mpc
  | 2 => .tid
  | n => areaBank n

/-- The software paging bank (R123). -/
def pagingBank (n : Nat) : SysReg :=
  match n with
  | 0 => .mpm
  | 1 => .mpc
  | 2 => .tid
  | 3 => .vmecr
  | 4 => .vmtid
  | 5 => .vmadr
  | n => areaBank n

/-- The FPU status bank (R170). -/
def fpuBank (n : Nat) : SysReg :=
  match n with
  | 6 => .fpsr
  | 7 => .fpepc
  | 8 => .fpst
  | 9 => .fpcc
  | 10 => .fpcfg
  | 11 => .fpec
  | _ => .reserved

/-- The user 0 bank (R75). -/
def user0Bank (n : Nat) : SysReg :=
  match n with
  | 5 => .psw
  | 8 => .fpst
  | 9 => .fpcc
  | 10 => .fpcfg
  | 16 => .ctpc
  | 17 => .ctpsw
  | 20 => .ctbp
  | _ => .reserved

/-- The user compatible bank (R76). -/
def userCompatBank (n : Nat) : SysReg :=
  match n with
  | 0 => .eipc
  | 1 => .eipsw
  | 2 => .fepc
  | 3 => .fepsw
  | 4 => .ecr
  | 5 => .psw
  | 8 => .fpst
  | 9 => .fpcc
  | 10 => .fpcfg
  | 13 => .eiic
  | 14 => .feic
  | 16 => .ctpc
  | 17 => .ctpsw
  | 20 => .ctbp
  | _ => .reserved

/-- A register of the FPU: without an FPU it is a reserved entry (R179). -/
def SysReg.isFpu : SysReg → Bool
  | .fpsr | .fpepc | .fpst | .fpcc | .fpcfg | .fpec => true
  | _ => false

/-- The bank that BSEL selects, for numbers 0 to 27 (R38). In the PMU bank and in a prohibited one every number is a
reserved entry (D6, U3). -/
def bankReg (bsel : Word) (n : Nat) : SysReg :=
  if bsel = 0 then mainBank n
  else if bsel = 0x10 then ehsw0Bank n
  else if bsel = 0x11 then ehsw1Bank n
  else if bsel = 0x1000 then violationBank n
  else if bsel = 0x1001 then settingBank n
  else if bsel = 0x1010 then pagingBank n
  else if bsel = 0x2000 then fpuBank n
  else if bsel = 0xFF00 then user0Bank n
  else if bsel = 0xFFFF then userCompatBank n
  else .reserved

/-- The register a number names (R39). -/
def State.sysReg (s : State) (n : BitVec 5) : SysReg :=
  match n with
  | 28#5 => .eiwr
  | 29#5 => .fewr
  | 30#5 => .dbwr
  | 31#5 => .bsel
  | _ =>
    let r := bankReg s.main.bsel n.toNat
    if r.isFpu && !s.cfg.hasFpu then .reserved else r

/-- The registers whose write by LDSR is blocked while NPV = 1 (R862): all but CTBP, the three FPU windows, and PSW,
which is protected bit by bit (R863). -/
def SysReg.isProtected : SysReg → Bool
  | .psw | .ctbp | .fpst | .fpcc | .fpcfg => false
  | _ => true

/-! ### Reading -/

/-- The lower-limit register of an area as read: bit 1 is S (R134). -/
def State.areaLower (s : State) (dpa0 : Bool) (p : Area) : Word := putBit p.lower 1 (dpa0 || !s.sps)

/-- FPST: PR, XC and XP of FPSR (R174). -/
def fpstOf (fpsr : Word) : Word := (fpsr >>> 1 &&& 0x8000) ||| (fpsr >>> 2 &&& 0x3F00) ||| (fpsr &&& 0x1F)
/-- FPCC: CC of FPSR (R175). -/
def fpccOf (fpsr : Word) : Word := fpsr >>> 24
/-- FPCFG: RM and XE of FPSR (R177). -/
def fpcfgOf (fpsr : Word) : Word := (fpsr >>> 10 &&& 0x300) ||| (fpsr >>> 5 &&& 0x1F)

/-- The value of a system register (R611). A reserved entry gives a free value (D2). -/
def State.readSys (s : State) (r : SysReg) : Word :=
  match r with
  | .eipc => s.main.eipc
  | .eipsw => s.main.eipsw
  | .fepc => s.main.fepc
  | .fepsw => s.main.fepsw
  | .ecr => s.main.ecr
  | .psw => s.psw
  | .sccfg => s.main.sccfg
  | .scbp => s.main.scbp
  | .eiic => s.main.eiic
  | .feic => s.main.feic
  | .ctpc => s.main.ctpc
  | .ctpsw => s.main.ctpsw
  | .ctbp => s.main.ctbp
  | .eiwr => s.main.eiwr
  | .fewr => s.main.fewr
  | .dbwr => s.main.dbwr
  | .bsel => s.main.bsel
  | .swCtl => 0
  | .swCfg => s.main.swCfg
  | .swBase => s.main.swBase
  | .ehCfg => s.main.ehCfg
  | .ehReset => s.main.ehReset
  | .ehBase => s.main.ehBase
  | .mpm => s.prot.mpm
  | .mpc => 0
  | .tid => s.prot.tid
  | .vsecr => s.prot.vsecr
  | .vstid => s.prot.vstid
  | .vsadr => s.prot.vsadr
  | .vmecr => s.prot.vmecr
  | .vmtid => s.prot.vmtid
  | .vmadr => s.prot.vmadr
  | .mca => s.prot.mca
  | .mcs => s.prot.mcs
  | .mcc => 0
  | .mcr => s.prot.mcr
  | .ipaL n => s.areaLower false (s.prot.ipa.get n)
  | .ipaU n => (s.prot.ipa.get n).upper
  | .dpaL n => s.areaLower (n == 0) (s.prot.dpa.get n)
  | .dpaU n => (s.prot.dpa.get n).upper
  | .fpsr => s.fpu.fpsr
  | .fpepc => s.fpu.fpepc
  | .fpst => fpstOf s.fpu.fpsr
  | .fpcc => fpccOf s.fpu.fpsr
  | .fpcfg => fpcfgOf s.fpu.fpsr
  | .fpec => s.fpu.fpec
  | .reserved => freeWord s.free

/-! ### The protection registers with an action -/

/-- MPM written (R124): with MPE = 0 the protection bits of PSW and ACT of every counter become 0, with AUE = 0 NPV does
(R852, R853). -/
def State.writeMpm (s : State) (v : Word) : State :=
  let t := { s with prot := { s.prot with mpm := v &&& (1 ||| bitAt s.cfg.aueBit ||| bitAt s.cfg.spsBit) } }
  let t := t.putPsw t.psw
  if t.mpe then t else { t with tsu := t.tsu.each (Counter.putCfg · 0 false) }

/-- An area with its enable bit cleared. -/
def Area.disable (p : Area) : Area := { p with lower := p.lower &&& ~~~1#32 }

/-- MPC written: ALDS = 1 clears the enable bit of every area and then itself (R125, R884). -/
def State.writeMpc (s : State) (v : Word) : State :=
  if v.getLsbD 0 then
    { s with prot := { s.prot with ipa := s.prot.ipa.map Area.disable, dpa := s.prot.dpa.map Area.disable } }
  else s

/-- MCR as the setting check computes it from MCA and MCS (R940). -/
def State.settingCheck (s : State) : Word :=
  let a := s.prot.mca.toNat
  let size := s.prot.mcs.toNat
  let last := a + size - 1
  let ov := decide (0xFFFFFFFF < last) || (decide (a ≤ 0x7FFFFFFF) && decide (0x80000000 ≤ last))
  let bit (n : Nat) (p : Grant → Bool) : Word := if !ov && s.granted a size p then bitAt n else 0
  (if ov then bitAt 8 else 0) ||| bit 4 Grant.sp ||| bit 2 Grant.write ||| bit 1 Grant.read ||| bit 0 Grant.exec

/-- A system register protection violation: it is counted, and the first one is recorded (R861). -/
def State.sysViolation (s : State) : State :=
  let p := s.prot
  let p := if p.vsecr = 0 then { p with vstid := p.tid, vsadr := pcValue s.cfg s.pc } else p
  { s with prot := { p with vsecr := if p.vsecr = 0xFF then 0xFF else p.vsecr + 1 } }

/-! ### Writing -/

/-- A field update of the main registers. -/
def State.setMain (s : State) (m : MainRegs) : State := { s with main := m }
/-- A field update of the protection registers. -/
def State.setProt (s : State) (p : ProtRegs) : State := { s with prot := p }
/-- FPSR written; bits 23 and 22 stay 0 (U4). -/
def State.setFpsr (s : State) (v : Word) : State := { s with fpu := { s.fpu with fpsr := v &&& 0xFF3FFFFF } }

/-- FPEPC as LDSR writes it: bits 31 to 29 are the sign extension of bit 28 in a 512 MB product (R35, R173) and store 0
otherwise (U4; log entry 12). -/
def fpepcValue (cfg : Config) (v : Word) : Word := pcValue cfg (if cfg.pcLimit512 then v else v &&& 0x1FFFFFFF#32)

/-- The bits of xPAnL that are stored: S is not (R130, R132, D20). -/
def areaLowerMask : Word := 0xFFFFFFF5#32

/-- A system register takes a value (R596, step 4; each register's own rule). A read-only or reserved entry keeps what
it has (R39). -/
def State.writeSys (s : State) (r : SysReg) (v : Word) : State :=
  match r with
  | .eipc => s.setMain { s.main with eipc := limitAddr s.cfg v }
  | .eipsw => s.setMain { s.main with eipsw := v &&& pswMask }
  | .fepc => s.setMain { s.main with fepc := limitAddr s.cfg v }
  | .fepsw => s.setMain { s.main with fepsw := v &&& pswMask }
  | .psw => s.putPsw (if s.fNPV then s.psw &&& 0xFFFFFFC0#32 ||| v &&& 0x3F#32 else v)
  | .sccfg => s.setMain { s.main with sccfg := v &&& 0xFF }
  | .scbp => s.setMain { s.main with scbp := limitAddr s.cfg v &&& ~~~3#32 }
  | .eiic => s.setMain { s.main with eiic := v }
  | .feic => s.setMain { s.main with feic := v }
  | .ctpc => s.setMain { s.main with ctpc := limitAddr s.cfg v }
  | .ctpsw => s.setMain { s.main with ctpsw := v &&& pswMask }
  | .ctbp => s.setMain { s.main with ctbp := limitAddr s.cfg v &&& ~~~1#32 }
  | .eiwr => s.setMain { s.main with eiwr := v }
  | .fewr => s.setMain { s.main with fewr := v }
  | .dbwr => s.setMain { s.main with dbwr := v }
  | .bsel => s.setMain { s.main with bsel := v &&& 0xFFFF }
  | .swCtl =>
    if v.getLsbD 0 then s.setMain { s.main with ehCfg := s.main.swCfg, ehBase := s.main.swBase } else s
  | .swCfg => s.setMain { s.main with swCfg := v &&& 1 }
  | .swBase => s.setMain { s.main with swBase := baseValue s.cfg v }
  | .mpm => s.writeMpm v
  | .mpc => s.writeMpc v
  | .tid => s.setProt { s.prot with tid := v }
  | .vsecr => s.setProt { s.prot with vsecr := v &&& 0xFF }
  | .vstid => s.setProt { s.prot with vstid := v }
  | .vsadr => s.setProt { s.prot with vsadr := pcValue s.cfg v }
  | .vmecr => s.setProt { s.prot with vmecr := v &&& 0x7E }
  | .vmtid => s.setProt { s.prot with vmtid := v }
  | .vmadr => s.setProt { s.prot with vmadr := v }
  | .mca => s.setProt { s.prot with mca := v }
  | .mcs => s.setProt { s.prot with mcs := v }
  | .mcc => s.setProt { s.prot with mcr := s.settingCheck }
  | .mcr => s.setProt { s.prot with mcr := v &&& 0x117 }
  | .ipaL n => s.setProt { s.prot with ipa := s.prot.ipa.set n { s.prot.ipa.get n with lower := v &&& areaLowerMask } }
  | .ipaU n => s.setProt { s.prot with ipa := s.prot.ipa.set n { s.prot.ipa.get n with upper := v &&& 0xFFFFFFF3 } }
  | .dpaL n => s.setProt { s.prot with dpa := s.prot.dpa.set n { s.prot.dpa.get n with lower := v &&& areaLowerMask } }
  | .dpaU n => s.setProt { s.prot with dpa := s.prot.dpa.set n { s.prot.dpa.get n with upper := v &&& 0xFFFFFFF6 } }
  | .fpsr => s.setFpsr v
  | .fpepc => { s with fpu := { s.fpu with fpepc := fpepcValue s.cfg v } }
  | .fpst =>
    s.setFpsr (s.fpu.fpsr &&& 0xFFFE03E0 ||| (v &&& 0x8000) <<< 1 ||| (v &&& 0x3F00) <<< 2 ||| v &&& 0x1F)
  | .fpcc => s.setFpsr (s.fpu.fpsr &&& 0x00FFFFFF ||| v <<< 24)
  | .fpcfg => s.setFpsr (s.fpu.fpsr &&& 0xFFF3FC1F ||| (v &&& 0x300) <<< 10 ||| (v &&& 0x1F) <<< 5)
  | .fpec => { s with fpu := { s.fpu with fpec := s.fpu.fpec &&& v } }
  | .ecr | .ehCfg | .ehReset | .ehBase | .reserved => s

/-- What LDSR does to the register a number names (R596): a write to a protected one while NPV = 1 is a violation and
nothing else (R861). -/
def State.loadSys (s : State) (n : BitVec 5) (v : Word) : State :=
  if s.fNPV && (s.sysReg n).isProtected then s.sysViolation else s.writeSys (s.sysReg n) v

end Sys2Proof.Machine
end

