-- ==== Sys2Proof/Machine/Operands.lean ====
section
/-! DEFINITION. Operand forms, and the shapes that many instructions share: where an access goes, what a result is before
and after its flags are written, register lists, searches, divisions. -/
namespace Sys2Proof.Machine

/-- What one instruction does to a state. -/
abbrev Result := Host.Outcome State Fault Refusal

/-! ### Immediates and displacements (R292, R293) -/

/-- A field sign-extended to a word. -/
abbrev sext {n : Nat} (v : BitVec n) : Word := v.signExtend 32
/-- A field zero-extended to a word. -/
abbrev zext {n : Nat} (v : BitVec n) : Word := v.setWidth 32
/-- A displacement whose bit 0 is not encoded. -/
abbrev even {n : Nat} (v : BitVec n) : BitVec (n + 1) := v ++ 0#1
/-- A displacement whose bits 1 and 0 are not encoded. -/
abbrev quad {n : Nat} (v : BitVec n) : BitVec (n + 2) := v ++ 0#2

/-- Base register plus displacement (R366). -/
def State.based (s : State) (base : Reg) (disp : Word) : Word := s.reg base + disp
/-- Element pointer plus displacement (R366). -/
def State.epBased (s : State) (disp : Word) : Word := s.reg epReg + disp

/-- The low byte sign-extended. -/
def sextB (v : Word) : Word := (v.setWidth 8).signExtend 32
/-- The low byte zero-extended. -/
def zextB (v : Word) : Word := (v.setWidth 8).setWidth 32
/-- The low halfword sign-extended. -/
def sextH (v : Word) : Word := (v.setWidth 16).signExtend 32
/-- The low halfword zero-extended. -/
def zextH (v : Word) : Word := (v.setWidth 16).setWidth 32

/-! ### Shapes of instructions -/

/-- A value goes to a register, no flag changes. -/
def State.move (s : State) (dst : Reg) (v : Word) (len : Nat) : State := (s.setReg dst v).advance len

/-- A sum or difference goes to a register, with its four flags (R419). -/
def State.arith (s : State) (dst : Reg) (f : Flagged) (len : Nat) : State :=
  ((s.putArith f).setReg dst f.value).advance len

/-- The flags of a difference, and nothing else (R394). -/
def State.compare (s : State) (f : Flagged) (len : Nat) : State := (s.putArith f).advance len

/-- A saturated sum or difference goes to a register (R447). -/
def State.saturated (s : State) (dst : Reg) (f : Flagged) (len : Nat) : State :=
  ((s.putSat f).setReg dst (saturate f)).advance len

/-- A logical result goes to a register (R459). -/
def State.logical (s : State) (dst : Reg) (r : Word) (len : Nat) : State :=
  ((s.putLogic r).setReg dst r).advance len

/-- A product goes to reg2 (low word) and then to reg3 (high word) (R410). -/
def State.product (s : State) (reg2 reg3 : Reg) (p : DWord) : State :=
  ((s.setReg reg2 (p.extractLsb' 0 32)).setReg reg3 (p.extractLsb' 32 32)).advance 4

/-- A datum is read, extended and put in a register (R366); where the access is not performed the register takes a free word
(R367). -/
def State.loadInto (s : State) (a : Word) (size : Nat) (sp : Bool) (ext : Word → Word) (dst : Reg) (len : Nat) :
    Result :=
  (s.loadAs a size sp ext).finish fun v s => (s.setReg dst v).advance len

/-- The low bytes of a value are stored (R366). -/
def State.storeFrom (s : State) (a v : Word) (size : Nat) (sp : Bool) (len : Nat) : Result :=
  (s.store a v size sp).finish fun _ s => s.advance len

/-- A byte is read, Z becomes the negation of its bit `n`, and `f` of the byte is written back (R558). A read that is not
performed leaves Z as it is. -/
def State.bitModify (s : State) (a : Word) (sp : Bool) (n : Nat) (f : Word → Word) : Result :=
  (s.modify a 1 sp f).finish fun v s => (if v.2 then s.putZ (!v.1.getLsbD n) else s).advance 4

/-- A byte is read and Z becomes the negation of its bit `n` (R558), of a free byte where the read is not performed (log entry 15). -/
def State.bitTest (s : State) (a : Word) (sp : Bool) (n : Nat) : Result :=
  (s.load a 1 sp).finish fun token s => (s.putZ (!token.getLsbD n)).advance 4

/-- The flags of a difference, and a datum to a register (R580). -/
def State.compareMove (s : State) (f : Flagged) (dst : Reg) (v : Word) : State :=
  ((s.putArith f).setReg dst v).advance 4

/-! ### Shifts (R527) -/

/-- A result with the carry of the operation that gave it; OV is 0. -/
structure Carried where
  value : Word
  cy : Bool
  deriving DecidableEq, Repr

/-- Shift left: the carry is the last bit shifted out. -/
def shiftLeft (a : Word) (n : Nat) : Carried := ⟨a <<< n, decide (0 < n) && a.getLsbD (32 - n)⟩
/-- Logical shift right. -/
def shiftRight (a : Word) (n : Nat) : Carried := ⟨a >>> n, decide (0 < n) && a.getLsbD (n - 1)⟩
/-- Arithmetic shift right. -/
def shiftArith (a : Word) (n : Nat) : Carried := ⟨a.sshiftRight n, decide (0 < n) && a.getLsbD (n - 1)⟩

/-- The shift count of a register form: the low 5 bits. -/
def shiftCount (v : Word) : Nat := (v.setWidth 5).toNat

/-- A shifted value goes to a register: CY, OV = 0, S, Z. -/
def State.shifted (s : State) (dst : Reg) (c : Carried) (len : Nat) : State :=
  ((s.putFlags c.cy false c.value.msb (c.value == 0)).setReg dst c.value).advance len

/-! ### Swaps (R480, R481, R499, R500) -/

/-- The bytes of each halfword exchanged. -/
def swapBytesInHalves (a : Word) : Word :=
  a.extractLsb' 16 8 ++ a.extractLsb' 24 8 ++ a.extractLsb' 0 8 ++ a.extractLsb' 8 8
/-- The four bytes in reverse order. -/
def swapBytes (a : Word) : Word :=
  a.extractLsb' 0 8 ++ a.extractLsb' 8 8 ++ a.extractLsb' 16 8 ++ a.extractLsb' 24 8
/-- The two halfwords exchanged. -/
def swapHalves (a : Word) : Word := a.extractLsb' 0 16 ++ a.extractLsb' 16 16

/-- A byte of the low halfword is zero. -/
def zeroByteLow (r : Word) : Bool := r.extractLsb' 0 8 == 0 || r.extractLsb' 8 8 == 0
/-- A byte of the word is zero. -/
def zeroByte (r : Word) : Bool := zeroByteLow r || r.extractLsb' 16 8 == 0 || r.extractLsb' 24 8 == 0
/-- The low halfword is zero. -/
def zeroLow (r : Word) : Bool := r.extractLsb' 0 16 == 0
/-- A halfword of the word is zero. -/
def zeroHalf (r : Word) : Bool := zeroLow r || r.extractLsb' 16 16 == 0

/-- A swapped value goes to a register: CY and Z as given, OV = 0, S. -/
def State.swapped (s : State) (dst : Reg) (r : Word) (cy z : Bool) : State :=
  ((s.putFlags cy false r.msb z).setReg dst r).advance 4

/-! ### Bit search (R528) -/

/-- How many bits are examined before the first that equals `t`; `fromLeft`: bit 31 is examined first. -/
def searchBit (fromLeft t : Bool) (a : Word) : Option Nat :=
  (List.range 32).find? fun k => a.getLsbD (if fromLeft then 31 - k else k) == t

/-- The outcome of a search goes to a register. CY is set at the last position only, or at any, by the product parameter
SCH_CY_ONLY_AT_LAST (D54). -/
def State.searched (s : State) (dst : Reg) (k : Option Nat) : State :=
  match k with
  | none => ((s.putFlags false false false true).setReg dst 0).advance 4
  | some k =>
    let cy := !s.cfg.schCyOnlyAtLast || decide (k = 31)
    ((s.putFlags cy false false false).setReg dst (BitVec.ofNat 32 (k + 1))).advance 4

/-! ### Division (R529) -/

/-- The quotient goes to reg2 and then the remainder to reg3, if there is one. -/
def State.putQuotient (s : State) (reg2 : Reg) (reg3 : Option Reg) (q m : Word) : State :=
  match reg3 with
  | none => s.setReg reg2 q
  | some r => (s.setReg reg2 q).setReg r m

/-- Division of `n` by `d`, truncated toward zero. By zero: OV is set, the results, S and Z are free (U21). A quotient of
2^31 from a signed division overflows and is stored as 80000000H with remainder 0 (D53). With reg2 = reg3 the flags S
and Z are free (U22). -/
def State.divide (s : State) (signed : Bool) (n d : Int) (reg2 : Reg) (reg3 : Option Reg) (len : Nat) : State :=
  if d = 0 then
    let t := s.putOSZ true (freeBit s.free) (freeBit (s.free + 1))
    (({ t with free := s.free + 4 }).putQuotient reg2 reg3 (freeWord (s.free + 2)) (freeWord (s.free + 3))).advance len
  else
    let q : Word := BitVec.ofInt 32 (n.tdiv d)
    let m : Word := BitVec.ofInt 32 (n.tmod d)
    let ov := signed && decide (n.tdiv d = 2 ^ 31)
    if reg3 = some reg2 then
      let t := s.putOSZ ov (freeBit s.free) (freeBit (s.free + 1))
      (({ t with free := s.free + 2 }).putQuotient reg2 reg3 q m).advance len
    else ((s.putOSZ ov q.msb (q == 0)).putQuotient reg2 reg3 q m).advance len

/-! ### Register lists (R294, R587, R599) -/

/-- r20 to r31 and the position of each in the twelve-bit list. -/
def listPositions : List (Reg × Nat) :=
  [(20, 7), (21, 6), (22, 5), (23, 4), (24, 11), (25, 10), (26, 9), (27, 8), (28, 3), (29, 2), (30, 0), (31, 1)]

/-- The registers of a list, in ascending order. -/
def listRegs (list : BitVec 12) : List Reg := (listPositions.filter fun p => list.getLsbD p.2).map Prod.fst

/-- An address with bits 1 and 0 cleared. -/
def wordAligned (a : Word) : Word := a &&& ~~~3#32

/-- PREPARE's stores, each below the one before; the value is the last address. -/
def State.pushRegs (s : State) (adr : Word) : List Reg → Acc Word
  | [] => .ok adr s
  | r :: rs => (s.store (wordAligned (adr - 4)) (s.reg r) 4 true).bind fun _ s => s.pushRegs (adr - 4) rs

/-- DISPOSE's loads, each above the one before; the value is the address after the last. -/
def State.popRegs (s : State) (adr : Word) : List Reg → Acc Word
  | [] => .ok adr s
  | r :: rs => (s.load (wordAligned adr) 4 true).bind fun v s => (s.setReg r v).popRegs (adr + 4) rs

/-- Words as bytes: an imm5 that counts words. -/
def wordsOf (imm5 : BitVec 5) : Word := zext (quad imm5)

/-- After how many of its `count` accesses the environment stops a PREPARE or DISPOSE, if it does (R247). The spec does not
say whether one can still be stopped after its last access, with sp unchanged: here it can, if the environment says so. One
that makes no access is never stopped, and a number greater than `count` stops nothing (DESIGN CHOICE, log entry 7). -/
def State.stopPoint (s : State) (count : Nat) : Option Nat := s.stopAfter.filter fun k => 0 < count && k ≤ count

/-- PREPARE up to the write of sp; `f` completes it. The stack pointer changes only when every store is done (R599); when
the environment stops the instruction, after its last store at the latest (DESIGN CHOICE, log entry 7), the stores done so
far stay, sp keeps its value, and it will run again (R247). -/
def State.prepared (s : State) (list : BitVec 12) (imm5 : BitVec 5) (f : State → State) : Result :=
  let regs := listRegs list
  match s.stopPoint regs.length with
  | some k => (s.pushRegs (s.reg spReg) (regs.take k)).finish fun _ s => s
  | none => (s.pushRegs (s.reg spReg) regs).finish fun adr s => f (s.setReg spReg (adr - wordsOf imm5))

/-- DISPOSE up to the write of sp; `f` completes it. The stack pointer changes only when every load is done (R587); when
the environment stops the instruction, after its last load at the latest (DESIGN CHOICE, log entry 7), the registers loaded
so far stay, sp keeps its value, and it will run again (R247). -/
def State.disposed (s : State) (list : BitVec 12) (imm5 : BitVec 5) (f : State → State) : Result :=
  let regs := (listRegs list).reverse
  let adr := s.reg spReg + wordsOf imm5
  match s.stopPoint regs.length with
  | some k => (s.popRegs adr (regs.take k)).finish fun _ s => s
  | none => (s.popRegs adr regs).finish fun adr s => f (s.setReg spReg adr)

end Sys2Proof.Machine
end

