-- ==== Sys2Proof/Machine/Arith.lean ====
section
/-! DEFINITION. Arithmetic, conditional arithmetic, multiply and multiply-accumulate instructions (R390 to R419). -/
namespace Sys2Proof.Machine

/-- ADD: reg2 plus reg1 (R390). -/
def execAdd (reg1 : Reg) (reg2 : Reg) (s : State) : Result :=
  .next (s.arith reg2 (addc (s.reg reg2) (s.reg reg1) false) 2)

/-- ADD: reg2 plus a signed immediate (R391). -/
def execAddImm5 (imm5 : BitVec 5) (reg2 : Reg) (s : State) : Result :=
  .next (s.arith reg2 (addc (s.reg reg2) (sext imm5) false) 2)

/-- ADDI: reg1 plus a signed immediate (R392). -/
def execAddi (imm16 : Half) (reg1 : Reg) (reg2 : Reg) (s : State) : Result :=
  .next (s.arith reg2 (addc (s.reg reg1) (sext imm16) false) 4)

/-- ADF: reg2 plus reg1, plus 1 when the condition holds (R393). -/
def execAdf (cond : BitVec 4) (reg1 : Reg) (reg2 : Reg) (reg3 : Reg) (s : State) : Result :=
  .next (s.arith reg3 (addc (s.reg reg2) (s.reg reg1) (Sys2Proof.Machine.cond cond s)) 4)

/-- CMP: the flags of reg2 minus reg1 (R394). -/
def execCmp (reg1 : Reg) (reg2 : Reg) (s : State) : Result := .next (s.compare (subc (s.reg reg2) (s.reg reg1) false) 2)

/-- CMP: the flags of reg2 minus a signed immediate (R395). -/
def execCmpImm5 (imm5 : BitVec 5) (reg2 : Reg) (s : State) : Result :=
  .next (s.compare (subc (s.reg reg2) (sext imm5) false) 2)

/-- MOV: reg1 to reg2 (R397). -/
def execMov (reg1 : Reg) (reg2 : Reg) (s : State) : Result := .next (s.move reg2 (s.reg reg1) 2)

/-- MOV: a signed immediate to reg2 (R398). -/
def execMovImm5 (imm5 : BitVec 5) (reg2 : Reg) (s : State) : Result := .next (s.move reg2 (sext imm5) 2)

/-- MOV: a 32-bit immediate to reg1 (R399). -/
def execMovImm32 (imm32 : Word) (reg1 : Reg) (s : State) : Result := .next (s.move reg1 imm32 6)

/-- MOVEA: reg1 plus a signed immediate, flags kept (R400). -/
def execMovea (imm16 : Half) (reg1 : Reg) (reg2 : Reg) (s : State) : Result :=
  .next (s.move reg2 (s.reg reg1 + sext imm16) 4)

/-- MOVHI: reg1 plus an immediate in the high halfword (R401). -/
def execMovhi (imm16 : Half) (reg1 : Reg) (reg2 : Reg) (s : State) : Result :=
  .next (s.move reg2 (s.reg reg1 + (imm16 ++ 0#16)) 4)

/-- SBF: reg2 minus reg1, minus 1 when the condition holds (R403). -/
def execSbf (cond : BitVec 4) (reg1 : Reg) (reg2 : Reg) (reg3 : Reg) (s : State) : Result :=
  .next (s.arith reg3 (subc (s.reg reg2) (s.reg reg1) (Sys2Proof.Machine.cond cond s)) 4)

/-- SUB: reg2 minus reg1 (R404). -/
def execSub (reg1 : Reg) (reg2 : Reg) (s : State) : Result :=
  .next (s.arith reg2 (subc (s.reg reg2) (s.reg reg1) false) 2)

/-- SUBR: reg1 minus reg2 (R405). -/
def execSubr (reg1 : Reg) (reg2 : Reg) (s : State) : Result :=
  .next (s.arith reg2 (subc (s.reg reg1) (s.reg reg2) false) 2)

/-- MUL: the signed 64-bit product (R410). -/
def execMul (reg1 : Reg) (reg2 : Reg) (reg3 : Reg) (s : State) : Result :=
  .next (s.product reg2 reg3 ((s.reg reg2).signExtend 64 * (s.reg reg1).signExtend 64))

/-- MUL: the signed 64-bit product with an immediate (R411). -/
def execMulImm9 (imm9 : BitVec 9) (reg2 : Reg) (reg3 : Reg) (s : State) : Result :=
  .next (s.product reg2 reg3 ((s.reg reg2).signExtend 64 * imm9.signExtend 64))

/-- MULH: the product of the low halfwords, signed (R412). -/
def execMulh (reg1 : Reg) (reg2 : Reg) (s : State) : Result :=
  .next (s.move reg2 (sextH (s.reg reg2) * sextH (s.reg reg1)) 2)

/-- MULH: the low halfword times a signed immediate (R413). -/
def execMulhImm5 (imm5 : BitVec 5) (reg2 : Reg) (s : State) : Result :=
  .next (s.move reg2 (sextH (s.reg reg2) * sext imm5) 2)

/-- MULHI: the low halfword of reg1 times a signed immediate (R414). -/
def execMulhi (imm16 : Half) (reg1 : Reg) (reg2 : Reg) (s : State) : Result :=
  .next (s.move reg2 (sextH (s.reg reg1) * sext imm16) 4)

/-- MULU: the unsigned 64-bit product (R415). -/
def execMulu (reg1 : Reg) (reg2 : Reg) (reg3 : Reg) (s : State) : Result :=
  .next (s.product reg2 reg3 ((s.reg reg2).setWidth 64 * (s.reg reg1).setWidth 64))

/-- MULU: the unsigned 64-bit product with an immediate (R416). -/
def execMuluImm9 (imm9 : BitVec 9) (reg2 : Reg) (reg3 : Reg) (s : State) : Result :=
  .next (s.product reg2 reg3 ((s.reg reg2).setWidth 64 * imm9.setWidth 64))

/-- MAC: the signed product plus a pair, modulo 2^64, to a pair (R417, D52). -/
def execMac (reg1 : Reg) (reg2 : Reg) (reg3 : Pair) (reg4 : Pair) (s : State) : Result :=
  let p := (s.reg reg2).signExtend 64 * (s.reg reg1).signExtend 64
  .next ((s.setPair reg4 (p + s.pair reg3)).advance 4)

/-- MACU: the unsigned product plus a pair, modulo 2^64, to a pair (R418, D52). -/
def execMacu (reg1 : Reg) (reg2 : Reg) (reg3 : Pair) (reg4 : Pair) (s : State) : Result :=
  let p := (s.reg reg2).setWidth 64 * (s.reg reg1).setWidth 64
  .next ((s.setPair reg4 (p + s.pair reg3)).advance 4)

end Sys2Proof.Machine
end

