-- ==== Sys2Proof/Machine/Branch.lean ====
section
/-! DEFINITION. Branch and bit manipulation instructions (R540 to R558). -/
namespace Sys2Proof.Machine

/-- Bcond (R540). -/
def execBcond (cond : BitVec 4) (disp : BitVec 8) (s : State) : Result :=
  if Sys2Proof.Machine.cond cond s then .next (s.setPc (s.pc + sext (even disp))) else .next (s.advance 2)

/-- JARL disp22 (R541). -/
def execJarl22 (disp : BitVec 21) (reg2 : Reg) (s : State) : Result :=
  .next ((s.setReg reg2 (s.pc + 4)).setPc (s.pc + sext (even disp)))

/-- JARL disp32 (R542). -/
def execJarl32 (disp : BitVec 31) (reg1 : Reg) (s : State) : Result :=
  .next ((s.setReg reg1 (s.pc + 6)).setPc (s.pc + even disp))

/-- JMP [reg1] (R543). -/
def execJmp (reg1 : Reg) (s : State) : Result := .next (s.setPc (s.reg reg1))

/-- JMP disp32[reg1] (R544). -/
def execJmp32 (disp : BitVec 31) (reg1 : Reg) (s : State) : Result := .next (s.setPc (s.reg reg1 + even disp))

/-- JR disp22 (R546). -/
def execJr22 (disp : BitVec 21) (s : State) : Result := .next (s.setPc (s.pc + sext (even disp)))

/-- JR disp32 (R547). -/
def execJr32 (disp : BitVec 31) (s : State) : Result := .next (s.setPc (s.pc + even disp))

/-- CLR1 bit#3: clears a bit of a byte of memory (R548). -/
def execClr1 (bit : BitVec 3) (disp : BitVec 16) (reg1 : Reg) (s : State) : Result :=
  s.bitModify (s.based reg1 (sext disp)) (reg1 == spReg) bit.toNat fun w => w &&& ~~~bitAt bit.toNat

/-- CLR1 reg2: clears the bit that reg2 names (R549). -/
def execClr1Reg (reg2 : Reg) (reg1 : Reg) (s : State) : Result :=
  s.bitModify (s.reg reg1) (reg1 == spReg) ((s.reg reg2).setWidth 3).toNat fun w =>
    w &&& ~~~bitAt ((s.reg reg2).setWidth 3).toNat

/-- NOT1 bit#3: inverts a bit of a byte of memory (R550). -/
def execNot1 (bit : BitVec 3) (disp : BitVec 16) (reg1 : Reg) (s : State) : Result :=
  s.bitModify (s.based reg1 (sext disp)) (reg1 == spReg) bit.toNat fun w => w ^^^ bitAt bit.toNat

/-- NOT1 reg2: inverts the bit that reg2 names (R551). -/
def execNot1Reg (reg2 : Reg) (reg1 : Reg) (s : State) : Result :=
  s.bitModify (s.reg reg1) (reg1 == spReg) ((s.reg reg2).setWidth 3).toNat fun w =>
    w ^^^ bitAt ((s.reg reg2).setWidth 3).toNat

/-- SET1 bit#3: sets a bit of a byte of memory (R552). -/
def execSet1 (bit : BitVec 3) (disp : BitVec 16) (reg1 : Reg) (s : State) : Result :=
  s.bitModify (s.based reg1 (sext disp)) (reg1 == spReg) bit.toNat fun w => w ||| bitAt bit.toNat

/-- SET1 reg2: sets the bit that reg2 names (R553). -/
def execSet1Reg (reg2 : Reg) (reg1 : Reg) (s : State) : Result :=
  s.bitModify (s.reg reg1) (reg1 == spReg) ((s.reg reg2).setWidth 3).toNat fun w =>
    w ||| bitAt ((s.reg reg2).setWidth 3).toNat

/-- TST1 bit#3: tests a bit of a byte of memory (R554). -/
def execTst1 (bit : BitVec 3) (disp : BitVec 16) (reg1 : Reg) (s : State) : Result :=
  s.bitTest (s.based reg1 (sext disp)) (reg1 == spReg) bit.toNat

/-- TST1 reg2: tests the bit that reg2 names (R555). -/
def execTst1Reg (reg2 : Reg) (reg1 : Reg) (s : State) : Result :=
  s.bitTest (s.reg reg1) (reg1 == spReg) ((s.reg reg2).setWidth 3).toNat

end Sys2Proof.Machine
end

