-- ==== Sys2Proof/Machine/Data.lean ====
section
/-! DEFINITION. Data manipulation and bit search instructions (R480 to R513, R527, R528). -/
namespace Sys2Proof.Machine

/-- BSH: bytes swapped within each halfword (R480). -/
def execBsh (reg2 : Reg) (reg3 : Reg) (s : State) : Result :=
  let r := swapBytesInHalves (s.reg reg2)
  .next (s.swapped reg3 r (zeroByteLow r) (zeroLow r))

/-- BSW: bytes of the word reversed (R481). -/
def execBsw (reg2 : Reg) (reg3 : Reg) (s : State) : Result :=
  let r := swapBytes (s.reg reg2)
  .next (s.swapped reg3 r (zeroByte r) (r == 0))

/-- HSW: halfwords swapped (R500). -/
def execHsw (reg2 : Reg) (reg3 : Reg) (s : State) : Result :=
  let r := swapHalves (s.reg reg2)
  .next (s.swapped reg3 r (zeroHalf r) (r == 0))

/-- HSH: a move whose CY and Z tell whether the low halfword is zero (R499). -/
def execHsh (reg2 : Reg) (reg3 : Reg) (s : State) : Result :=
  let r := s.reg reg2
  .next (s.swapped reg3 r (zeroLow r) (zeroLow r))

/-- CMOV: reg1 if the condition holds, else reg2 (R482). -/
def execCmov (cond : BitVec 4) (reg1 : Reg) (reg2 : Reg) (reg3 : Reg) (s : State) : Result :=
  .next (s.move reg3 (if Sys2Proof.Machine.cond cond s then s.reg reg1 else s.reg reg2) 4)

/-- CMOV: a signed immediate if the condition holds, else reg2 (R483). -/
def execCmovImm5 (cond : BitVec 4) (imm5 : BitVec 5) (reg2 : Reg) (reg3 : Reg) (s : State) : Result :=
  .next (s.move reg3 (if Sys2Proof.Machine.cond cond s then sext imm5 else s.reg reg2) 4)

/-- SASF: reg2 shifted left by 1, with the condition in bit 0 (R484). -/
def execSasf (cond : BitVec 4) (reg2 : Reg) (s : State) : Result :=
  .next (s.move reg2 (s.reg reg2 <<< 1 ||| (if Sys2Proof.Machine.cond cond s then 1 else 0)) 4)

/-- SETF: the condition as 1 or 0 (R488). -/
def execSetf (cond : BitVec 4) (reg2 : Reg) (s : State) : Result :=
  .next (s.move reg2 (if Sys2Proof.Machine.cond cond s then 1 else 0) 4)

/-- SAR: arithmetic shift right by a register (R485). -/
def execSar (reg1 : Reg) (reg2 : Reg) (s : State) : Result :=
  .next (s.shifted reg2 (shiftArith (s.reg reg2) (shiftCount (s.reg reg1))) 4)

/-- SAR: arithmetic shift right by an immediate (R486). -/
def execSarImm5 (imm5 : BitVec 5) (reg2 : Reg) (s : State) : Result :=
  .next (s.shifted reg2 (shiftArith (s.reg reg2) imm5.toNat) 2)

/-- SAR: arithmetic shift right by a register, to reg3 (R487, C51). -/
def execSar3 (reg1 : Reg) (reg2 : Reg) (reg3 : Reg) (s : State) : Result :=
  .next (s.shifted reg3 (shiftArith (s.reg reg2) (shiftCount (s.reg reg1))) 4)

/-- SHR: logical shift right by a register (R490). -/
def execShr (reg1 : Reg) (reg2 : Reg) (s : State) : Result :=
  .next (s.shifted reg2 (shiftRight (s.reg reg2) (shiftCount (s.reg reg1))) 4)

/-- SHR: logical shift right by an immediate (R489). -/
def execShrImm5 (imm5 : BitVec 5) (reg2 : Reg) (s : State) : Result :=
  .next (s.shifted reg2 (shiftRight (s.reg reg2) imm5.toNat) 2)

/-- SHR: logical shift right by a register, to reg3 (R491, C51). -/
def execShr3 (reg1 : Reg) (reg2 : Reg) (reg3 : Reg) (s : State) : Result :=
  .next (s.shifted reg3 (shiftRight (s.reg reg2) (shiftCount (s.reg reg1))) 4)

/-- SHL: logical shift left by a register (R493). -/
def execShl (reg1 : Reg) (reg2 : Reg) (s : State) : Result :=
  .next (s.shifted reg2 (shiftLeft (s.reg reg2) (shiftCount (s.reg reg1))) 4)

/-- SHL: logical shift left by an immediate (R492). -/
def execShlImm5 (imm5 : BitVec 5) (reg2 : Reg) (s : State) : Result :=
  .next (s.shifted reg2 (shiftLeft (s.reg reg2) imm5.toNat) 2)

/-- SHL: logical shift left by a register, to reg3 (R498, C51). -/
def execShl3 (reg1 : Reg) (reg2 : Reg) (reg3 : Reg) (s : State) : Result :=
  .next (s.shifted reg3 (shiftLeft (s.reg reg2) (shiftCount (s.reg reg1))) 4)

/-- SXB: sign-extend the byte of reg1 (R494). -/
def execSxb (reg1 : Reg) (s : State) : Result := .next (s.move reg1 (sextB (s.reg reg1)) 2)

/-- SXH: sign-extend the halfword of reg1 (R495). -/
def execSxh (reg1 : Reg) (s : State) : Result := .next (s.move reg1 (sextH (s.reg reg1)) 2)

/-- ZXB: zero-extend the byte of reg1 (R496). -/
def execZxb (reg1 : Reg) (s : State) : Result := .next (s.move reg1 (zextB (s.reg reg1)) 2)

/-- ZXH: zero-extend the halfword of reg1 (R497). -/
def execZxh (reg1 : Reg) (s : State) : Result := .next (s.move reg1 (zextH (s.reg reg1)) 2)

/-- SCH0L: search zero from the left (R510). -/
def execSch0l (reg2 : Reg) (reg3 : Reg) (s : State) : Result :=
  .next (s.searched reg3 (searchBit true false (s.reg reg2)))

/-- SCH0R: search zero from the right (R511). -/
def execSch0r (reg2 : Reg) (reg3 : Reg) (s : State) : Result :=
  .next (s.searched reg3 (searchBit false false (s.reg reg2)))

/-- SCH1L: search one from the left (R512). -/
def execSch1l (reg2 : Reg) (reg3 : Reg) (s : State) : Result :=
  .next (s.searched reg3 (searchBit true true (s.reg reg2)))

/-- SCH1R: search one from the right (R513). -/
def execSch1r (reg2 : Reg) (reg3 : Reg) (s : State) : Result :=
  .next (s.searched reg3 (searchBit false true (s.reg reg2)))

end Sys2Proof.Machine
end

