-- ==== Sys2Proof/Machine/Divide.lean ====
section
/-! DEFINITION. Divide and high-speed divide instructions (R520 to R526, R529). -/
namespace Sys2Proof.Machine

/-- DIV: signed word division (R520). -/
def execDiv (reg1 : Reg) (reg2 : Reg) (reg3 : Reg) (s : State) : Result :=
  .next (s.divide true (s.reg reg2).toInt (s.reg reg1).toInt reg2 (some reg3) 4)

/-- DIVH: signed division by a halfword, quotient only (R521). -/
def execDivhReg (reg1 : Reg) (reg2 : Reg) (s : State) : Result :=
  .next (s.divide true (s.reg reg2).toInt (sextH (s.reg reg1)).toInt reg2 none 2)

/-- DIVH: signed division by a halfword (R522). -/
def execDivh (reg1 : Reg) (reg2 : Reg) (reg3 : Reg) (s : State) : Result :=
  .next (s.divide true (s.reg reg2).toInt (sextH (s.reg reg1)).toInt reg2 (some reg3) 4)

/-- DIVHU: unsigned division by a halfword (R523). -/
def execDivhu (reg1 : Reg) (reg2 : Reg) (reg3 : Reg) (s : State) : Result :=
  .next (s.divide false (s.reg reg2).toNat (zextH (s.reg reg1)).toNat reg2 (some reg3) 4)

/-- DIVU: unsigned word division (R524). -/
def execDivu (reg1 : Reg) (reg2 : Reg) (reg3 : Reg) (s : State) : Result :=
  .next (s.divide false (s.reg reg2).toNat (s.reg reg1).toNat reg2 (some reg3) 4)

/-- DIVQ: the results of DIV (R525). -/
def execDivq (reg1 : Reg) (reg2 : Reg) (reg3 : Reg) (s : State) : Result :=
  .next (s.divide true (s.reg reg2).toInt (s.reg reg1).toInt reg2 (some reg3) 4)

/-- DIVQU: the results of DIVU (R526). -/
def execDivqu (reg1 : Reg) (reg2 : Reg) (reg3 : Reg) (s : State) : Result :=
  .next (s.divide false (s.reg reg2).toNat (s.reg reg1).toNat reg2 (some reg3) 4)

end Sys2Proof.Machine
end

