-- ==== Sys2Proof/Machine/Float.lean ====
section
/-! DEFINITION. Floating-point numbers: the two formats (R650), what an operand is (R656, R657), exact operations, rounding
and what it detects (R659). Nothing here reads or writes a state. -/
namespace Sys2Proof.Machine

/-! ### Formats (R650) -/

/-- A format: the lengths of its fraction and its exponent. -/
structure Fmt where
  frac : Nat
  expBits : Nat
  deriving DecidableEq, Repr

/-- Single precision. -/
def single : Fmt := ⟨23, 8⟩
/-- Double precision. -/
def double : Fmt := ⟨52, 11⟩

/-- The exponent bias, which is also Emax. -/
def Fmt.bias (f : Fmt) : Nat := 2 ^ (f.expBits - 1) - 1
/-- The least exponent of a normalized number. -/
def Fmt.emin (f : Fmt) : Int := 1 - (f.bias : Int)

/-! ### Detected exceptions (R172, R658) -/

/-- A set of exceptions, as the field XC holds it: E, V, Z, O, U, I from bit 5 to bit 0. -/
abbrev Det := BitVec 6
/-- Unimplemented operation. -/
def Det.e : Det := 0b100000
/-- Invalid operation. -/
def Det.v : Det := 0b010000
/-- Division by zero. -/
def Det.z : Det := 0b001000
/-- Overflow. -/
def Det.o : Det := 0b000100
/-- Underflow. -/
def Det.u : Det := 0b000010
/-- Inexact. -/
def Det.i : Det := 0b000001

/-! ### Values -/

/-- What a datum stands for once a denormalized number is flushed. -/
inductive Fp where
  /-- A NaN, quiet or signaling. -/
  | nan (quiet : Bool)
  | inf (neg : Bool)
  | zero (neg : Bool)
  /-- A non-zero number of magnitude `m * 2 ^ e`. -/
  | fin (neg : Bool) (m : Nat) (e : Int)
  deriving DecidableEq, Repr

/-- An operand: its value, and whether it was a denormalized number (R657; the zero keeps the sign, D57). -/
structure Operand where
  val : Fp
  flushed : Bool
  deriving DecidableEq, Repr

/-- The operand a bit pattern stands for (R650). -/
def Fmt.unpack (f : Fmt) (w : DWord) : Operand :=
  let n := w.toNat
  let neg := n.testBit (f.frac + f.expBits)
  let e := n / 2 ^ f.frac % 2 ^ f.expBits
  let m := n % 2 ^ f.frac
  if e = 2 ^ f.expBits - 1 then ⟨if m = 0 then .inf neg else .nan (m.testBit (f.frac - 1)), false⟩
  else if e = 0 then ⟨.zero neg, m != 0⟩
  else ⟨.fin neg (2 ^ f.frac + m) ((e : Int) - f.bias - f.frac), false⟩

/-- The bit pattern of a sign, a biased exponent and a fraction. -/
def Fmt.bits (f : Fmt) (neg : Bool) (e m : Nat) : DWord :=
  BitVec.ofNat 64 (neg.toNat * 2 ^ (f.frac + f.expBits) + e * 2 ^ f.frac + m)

/-- The generated Q-NaN of a format (R656, D56). -/
def Fmt.qnan (f : Fmt) (cfg : Config) : DWord := if f = single then cfg.qnanS.setWidth 64 else cfg.qnanD

/-- The bit pattern of a rounded value. -/
def Fmt.pack (f : Fmt) (cfg : Config) : Fp → DWord
  | .nan _ => f.qnan cfg
  | .inf neg => f.bits neg (2 ^ f.expBits - 1) 0
  | .zero neg => f.bits neg 0 0
  | .fin neg m e => f.bits neg (e + f.frac + f.bias).toNat (m - 2 ^ f.frac)

/-- The value is a NaN. -/
def Fp.isNan : Fp → Bool
  | .nan _ => true
  | _ => false
/-- The value is a signaling NaN. -/
def Fp.isSnan : Fp → Bool
  | .nan q => !q
  | _ => false
/-- The value with its sign inverted; a NaN stays. -/
def Fp.neg : Fp → Fp
  | .nan q => .nan q
  | .inf n => .inf !n
  | .zero n => .zero !n
  | .fin n m e => .fin (!n) m e
/-- The magnitude; a NaN stays. -/
def Fp.abs : Fp → Fp
  | .nan q => .nan q
  | .inf _ => .inf false
  | .zero _ => .zero false
  | .fin _ m e => .fin false m e

/-- A finite value as an integer multiple of `2 ^ e0`, for `e0` no greater than its exponent. -/
def Fp.scaled (e0 : Int) : Fp → Int
  | .fin n m e => let a : Int := (m <<< (e - e0).toNat : Nat); if n then -a else a
  | _ => 0

/-- The order of values that are no NaN; zeros are equal (R771). -/
def Fp.less : Fp → Fp → Bool
  | .nan _, _ => false
  | _, .nan _ => false
  | .inf s, .inf t => s && !t
  | .inf s, _ => s
  | _, .inf t => !t
  | .zero _, .zero _ => false
  | .zero _, .fin n _ _ => !n
  | .fin n _ _, .zero _ => n
  | .fin n m e, .fin n' m' e' =>
    let e0 := min e e'
    decide ((Fp.fin n m e).scaled e0 < (Fp.fin n' m' e').scaled e0)

/-! ### Rounding (R659) -/

/-- What an operation may depend on besides its operands: the product parameters, FPSR.XE, and the next free value. -/
structure FpEnv where
  cfg : Config
  xe : BitVec 5
  free : Nat
  deriving DecidableEq, Repr

/-- `m` rounded to `f.frac + 1` bits, to nearest, ties to even: the bits, their exponent offset, and whether bits were
lost. -/
def Fmt.roundBits (f : Fmt) (m : Nat) : Nat × Nat × Bool :=
  let k := m.log2 - f.frac
  if m.log2 ≤ f.frac then (m <<< (f.frac - m.log2), 0, false)
  else
    let q := m >>> k
    let rem := m % 2 ^ k
    let half := 2 ^ (k - 1)
    let q := if half < rem || (rem == half && q % 2 == 1) then q + 1 else q
    if q = 2 ^ (f.frac + 1) then (2 ^ f.frac, k + 1, rem != 0) else (q, k, rem != 0)

/-- A value rounded to a format, and what that detects: underflow before rounding, overflow after it, inexact, with the
default results of Table 5-1. -/
def Fmt.round (f : Fmt) (env : FpEnv) : Fp → Fp × Det
  | .fin neg m e =>
    let r := f.roundBits m
    let lost := if r.2.2 then Det.i else 0
    let e' := if m.log2 ≤ f.frac then e - (f.frac - m.log2 : Nat) else e + r.2.1
    if e + m.log2 < f.emin then
      (.zero neg, Det.u ||| lost ||| (if !env.xe.getLsbD 1 || env.cfg.fpOuAlwaysI then Det.i else 0))
    else if (f.bias : Int) < e' + f.frac then
      (.inf neg, Det.o ||| lost ||| (if !env.xe.getLsbD 2 || env.cfg.fpOuAlwaysI then Det.i else 0))
    else (.fin neg r.1 e', lost)
  | x => (x, 0)

/-- A number between two neighbours: one more bit is appended, which says that bits were lost below it. -/
def jam (neg : Bool) (m : Nat) (e : Int) (lost : Bool) : Fp := if lost then .fin neg (2 * m + 1) (e - 1) else .fin neg m e

/-! ### Exact operations, on operands with no NaN among them -/

/-- The sum (R672). -/
def Fp.add : Fp → Fp → Fp × Det
  | .inf s, .inf t => if s = t then (.inf s, 0) else (.nan true, Det.v)
  | .inf s, _ => (.inf s, 0)
  | _, .inf t => (.inf t, 0)
  | .zero s, .zero t => (.zero (s && t), 0)
  | .zero _, y => (y, 0)
  | x, .zero _ => (x, 0)
  | .fin n m e, .fin n' m' e' =>
    let e0 := min e e'
    let i := (Fp.fin n m e).scaled e0 + (Fp.fin n' m' e').scaled e0
    if i = 0 then (.zero false, 0) else (.fin (decide (i < 0)) i.natAbs e0, 0)
  | .nan _, _ => (.nan true, 0)
  | _, .nan _ => (.nan true, 0)

/-- The product (R682). -/
def Fp.mul : Fp → Fp → Fp × Det
  | .inf s, .inf t => (.inf (s ^^ t), 0)
  | .inf _, .zero _ => (.nan true, Det.v)
  | .zero _, .inf _ => (.nan true, Det.v)
  | .inf s, .fin t _ _ => (.inf (s ^^ t), 0)
  | .fin s _ _, .inf t => (.inf (s ^^ t), 0)
  | .zero s, .zero t => (.zero (s ^^ t), 0)
  | .zero s, .fin t _ _ => (.zero (s ^^ t), 0)
  | .fin s _ _, .zero t => (.zero (s ^^ t), 0)
  | .fin s m e, .fin t m' e' => (.fin (s ^^ t) (m * m') (e + e'), 0)
  | .nan _, _ => (.nan true, 0)
  | _, .nan _ => (.nan true, 0)

/-- The quotient of two numbers, to `k` bits after the point. -/
def divFin (k : Nat) (neg : Bool) (m : Nat) (e : Int) (m' : Nat) (e' : Int) : Fp :=
  jam neg ((m <<< k) / m') (e - e' - k) ((m <<< k) % m' != 0)

/-- The first operand divided by the second (R674). -/
def Fp.div (f : Fmt) : Fp → Fp → Fp × Det
  | .inf _, .inf _ => (.nan true, Det.v)
  | .zero _, .zero _ => (.nan true, Det.v)
  | .inf s, .zero t => (.inf (s ^^ t), 0)
  | .inf s, .fin t _ _ => (.inf (s ^^ t), 0)
  | .zero s, .inf t => (.zero (s ^^ t), 0)
  | .fin s _ _, .inf t => (.zero (s ^^ t), 0)
  | .zero s, .fin t _ _ => (.zero (s ^^ t), 0)
  | .fin s _ _, .zero t => (.inf (s ^^ t), Det.z)
  | .fin s m e, .fin t m' e' => (divFin (2 * f.frac + 6) (s ^^ t) m e m' e', 0)
  | .nan _, _ => (.nan true, 0)
  | _, .nan _ => (.nan true, 0)

/-- The integer square root of `m`, found bit by bit from bit `k - 1`. -/
def isqrt (m : Nat) : Nat → Nat → Nat
  | 0, r => r
  | k + 1, r => isqrt m k (if (r + 2 ^ k) * (r + 2 ^ k) ≤ m then r + 2 ^ k else r)

/-- The integer square root. -/
def natSqrt (m : Nat) : Nat := isqrt m (m.log2 / 2 + 1) 0

/-- The square root (R692). -/
def Fp.sqrt (f : Fmt) : Fp → Fp × Det
  | .nan _ => (.nan true, 0)
  | .zero s => (.zero s, 0)
  | .inf s => if s then (.nan true, Det.v) else (.inf false, 0)
  | .fin s m e =>
    if s then (.nan true, Det.v)
    else
      let t := 2 * f.frac + 8 + (e % 2).toNat
      let a := m <<< t
      let r := natSqrt a
      (jam false r ((e - t) / 2) (r * r != a), 0)

/-- The reciprocal; a number is always inexact (R688, D61). -/
def Fp.recip (f : Fmt) : Fp → Fp × Det
  | .nan _ => (.nan true, 0)
  | .zero s => (.inf s, Det.z)
  | .inf s => (.zero s, 0)
  | .fin s m e => (divFin (2 * f.frac + 6) s 1 0 m e, Det.i)

/-- The reciprocal of the square root; a number is always inexact (R690, D61). -/
def Fp.rsqrt (f : Fmt) : Fp → Fp × Det
  | .nan _ => (.nan true, 0)
  | .zero s => (.inf s, Det.z)
  | .inf s => if s then (.nan true, Det.v) else (.zero false, 0)
  | .fin s m e =>
    if s then (.nan true, Det.v)
    else
      let a := m <<< (e % 2).toNat
      let k := 2 * f.frac + 6
      let y := natSqrt (2 ^ (2 * k) / a)
      (jam false y (-(e / 2) - k) (y * y * a != 2 ^ (2 * k)), Det.i)

/-- Product plus addend in one operation (R667): `p` is the product with what it detects, `c` the addend with its sign. The
product is tested for overflow alone, as R667 orders it; C65 has the Note of the manual detect an underflowing product as U
too, for which R667 has no step (DESIGN CHOICE, log entry 24). -/
def Fp.fused (f : Fmt) (env : FpEnv) (p : Fp × Det) (c : Fp) : Fp × Det :=
  if p.2 != 0 then p
  else
    let r := f.round env p.1
    let tooBig := env.cfg.fmaProductOverflowCheck && r.2 &&& Det.o != 0
    match r.1, c with
    | .inf s, .inf t =>
      if tooBig then (if s = t then (.inf t, r.2) else (.nan true, Det.v)) else p.1.add c
    | .inf s, _ => if tooBig then (.inf s, r.2) else p.1.add c
    | _, _ => p.1.add c

/-! ### The outcome of an instruction -/

/-- A default result, the set detected, and how many free values were used. -/
structure FpOut where
  value : DWord
  det : Det
  used : Nat
  deriving DecidableEq, Repr

/-- NaN operands come before every other case (R656): a signaling one is invalid, a quiet one gives a Q-NaN. -/
def nanFirst (xs : List Operand) (r : Fp × Det) : Fp × Det :=
  if xs.any (·.val.isSnan) then (.nan true, Det.v)
  else if xs.any (·.val.isNan) then (.nan true, 0) else r

/-- The set with I added when an operand was flushed, unless V or Z is detected or an operand is a NaN (R657). -/
def flushInexact (xs : List Operand) (d : Det) : Det :=
  if xs.any (·.flushed) && d &&& (Det.v ||| Det.z) == 0 && !xs.any (·.val.isNan) then d ||| Det.i else d

/-- An arithmetic result, rounded and packed. -/
def Fmt.deliver (f : Fmt) (env : FpEnv) (xs : List Operand) (r : Fp × Det) : FpOut :=
  let r := nanFirst xs r
  let y := f.round env r.1
  ⟨f.pack env.cfg y.1, flushInexact xs (r.2 ||| y.2), 0⟩

/-- The operand is a number that is not zero. -/
def Operand.isFin (a : Operand) : Bool :=
  match a.val with
  | .fin _ _ _ => true
  | _ => false

/-- The pattern that lies `shift - n` units in the last place from a number, if it is a normalized number of the same sign;
else the number itself, since no result is a denormalized number (R659) and none is past the end of the format. -/
def Fmt.nudge (f : Fmt) (v : DWord) (shift n : Nat) : DWord :=
  let w := BitVec.ofNat 64 (v.toNat + shift - n)
  if (f.unpack w).isFin && v.toNat / 2 ^ (f.frac + f.expBits) == w.toNat / 2 ^ (f.frac + f.expBits) then w else v

/-- A RECIPF or RSQRTF result: a number within the product's error bound, and a zero from a masked underflow has a free sign
(U36). -/
def Fmt.approximate (f : Fmt) (env : FpEnv) (xs : List Operand) (r : Fp × Det) : FpOut :=
  let o := f.deliver env xs r
  if o.det &&& Det.u != 0 then
    (if env.xe.getLsbD 1 then o else ⟨f.pack env.cfg (.zero (freeBit env.free)), o.det, 1⟩)
  else if env.cfg.recipApproxUlp = 0 || o.det &&& Det.i == 0 || !(f.unpack o.value).isFin then o
  else
    let n := env.cfg.recipApproxUlp
    ⟨f.nudge o.value ((freeWord env.free).toNat % (2 * n + 1)) n, o.det, 1⟩

/-- The larger or the smaller operand (R677, R679). Zeros of different sign: +0 is the larger (D60); when both were
denormalized the sign is free (U35). -/
def Fmt.extreme (f : Fmt) (env : FpEnv) (larger : Bool) (a b : Operand) : FpOut :=
  let pick : Fp :=
    match a.val, b.val with
    | .zero s, .zero t =>
      if a.flushed && b.flushed && s != t then .zero (freeBit env.free) else .zero (if larger then s && t else s || t)
    | x, y => if x.less y == larger then y else x
  let r := nanFirst [a, b] (pick, 0)
  ⟨f.pack env.cfg r.1, r.2, if a.flushed && b.flushed then 1 else 0⟩

/-! ### Conversions -/

/-- A rounding direction (R700). -/
inductive Direction where
  | nearest
  | up
  | down
  | zero
  deriving DecidableEq, Repr

/-- A number rounded to an integer, and whether that changed it. -/
def roundInt (dir : Direction) (neg : Bool) (m : Nat) (e : Int) : Int × Bool :=
  let k := (-e).toNat
  let q := (m <<< e.toNat) >>> k
  let rem := (m <<< e.toNat) % 2 ^ k
  let inc :=
    match dir with
    | .nearest => decide (2 ^ k < 2 * rem) || (2 * rem == 2 ^ k && q % 2 == 1)
    | .up => !neg && rem != 0
    | .down => neg && rem != 0
    | .zero => false
  let n : Int := (q + inc.toNat : Nat)
  (if neg then -n else n, rem != 0)

/-- An integer format: its width, and whether it is signed. -/
structure IntFmt where
  width : Nat
  signed : Bool
  deriving DecidableEq, Repr

/-- Signed 64-bit. -/
def fmtL : IntFmt := ⟨64, true⟩
/-- Unsigned 64-bit. -/
def fmtUL : IntFmt := ⟨64, false⟩
/-- Signed 32-bit. -/
def fmtW : IntFmt := ⟨32, true⟩
/-- Unsigned 32-bit. -/
def fmtUW : IntFmt := ⟨32, false⟩

/-- The least integer of a format. -/
def IntFmt.lo (t : IntFmt) : Int := if t.signed then -(2 ^ (t.width - 1) : Int) else 0
/-- The greatest integer of a format. -/
def IntFmt.hi (t : IntFmt) : Int := if t.signed then (2 ^ (t.width - 1) : Int) - 1 else (2 ^ t.width : Int) - 1

/-- An operand converted to an integer (R700). -/
def toInteger (dir : Direction) (t : IntFmt) (a : Operand) : FpOut :=
  let invalid (positive : Bool) : FpOut := ⟨BitVec.ofInt 64 (if positive then t.hi else t.lo), Det.v, 0⟩
  match a.val with
  | .nan _ => invalid false
  | .inf neg => invalid !neg
  | .zero _ => ⟨0, if a.flushed then Det.i else 0, 0⟩
  | .fin neg m e =>
    let r := roundInt dir neg m e
    if (!t.signed && neg) || decide (r.1 < t.lo) || decide (t.hi < r.1) then invalid !neg
    else ⟨BitVec.ofInt 64 r.1, if r.2 then Det.i else 0, 0⟩

/-- An integer converted to a format (R701). -/
def Fmt.ofInteger (f : Fmt) (env : FpEnv) (n : Int) : FpOut :=
  f.deliver env [] (if n = 0 then .zero false else .fin (decide (n < 0)) n.natAbs 0, 0)

/-- The truth of a comparison and what it detects (R770, R771): `a` is the reg2 operand. -/
def compareFp (env : FpEnv) (fcond : BitVec 4) (a b : Operand) : FpOut :=
  let x := a.val
  let y := b.val
  let unordered := x.isNan || y.isNan
  let less := x.less y
  let equal := !unordered && !less && !y.less x
  let c := (fcond.getLsbD 2 && less) || (fcond.getLsbD 1 && equal) || (fcond.getLsbD 0 && unordered)
  let invalid :=
    (unordered && fcond.getLsbD 3) || (env.cfg.cmpfSnanAlwaysInvalid && (x.isSnan || y.isSnan))
  ⟨(BitVec.ofBool c).setWidth 64, if invalid then Det.v else 0, 0⟩

end Sys2Proof.Machine
end

