-- ==== Sys2Proof/Machine/Fpu.lean ====
section
/-! DEFINITION. What every floating-point instruction shares: availability (R654), invalidation (R663), operating
conditions (R655), completion and the floating-point operation exception (R658, R664). -/
namespace Sys2Proof.Machine

/-- The class of an instruction (R653). -/
inductive FpClass where
  | single
  | double
  deriving DecidableEq, Repr

/-- Without an FPU, the coprocessor unusable exception with the code of the class (R654, R1032). -/
def State.withFpu (s : State) (c : FpClass) (t : State) : Result :=
  if s.cfg.hasFpu then .next t
  else .next (s.takeException (.ucpop (match c with | .single => 0 | .double => 1)) s.pc)

/-- An FPI exception is reported: floating-point instructions are invalidated (R663). -/
def State.fpInvalid (s : State) : Bool := s.fpu.fpec.getLsbD 0

/-- The exception mode of a class: FPSR.SEM or FPSR.DEM (R664). -/
def State.fpPrecise (s : State) : FpClass → Bool
  | .single => s.fpu.fpsr.getLsbD 20
  | .double => s.fpu.fpsr.getLsbD 21

/-- FPSR.FS = 0: results are left open (R655, U31). FPSR.RM does not matter: a total model rounds to nearest whatever it
holds (U32), and the directed conversions take no notice of it (R700; log entry 23). -/
def State.fpOpen (s : State) : Bool := !s.fpu.fpsr.getLsbD 17

/-- What an operation may depend on besides its operands. -/
def State.fpEnv (s : State) : FpEnv := ⟨s.cfg, s.fpu.fpsr.extractLsb' 5 5, s.free⟩

/-- FPSR when an operation exception occurs: XC and PR are rewritten (R658). -/
def excFpsr (fpsr : Word) (precise : Bool) (det : Det) : Word :=
  putBit (fpsr &&& 0xFFFF03FF#32 ||| det.setWidth 32 <<< 10) 16 precise

/-- The floating-point operation exception (R658, R664): precise, or reported and left for a boundary. -/
def State.fpException (s : State) (c : FpClass) (det : Det) : State :=
  let p := s.fpPrecise c
  let t := { s with fpu := { s.fpu with fpsr := excFpsr s.fpu.fpsr p det, fpepc := limitAddr s.cfg s.pc } }
  if p then t.takeException .fpp s.pc
  else State.advance { t with fpu := { t.fpu with fpec := t.fpu.fpec ||| 1#32 } } 4

/-- Some detected exception is enabled; E always is (R658, R661). -/
def State.fpEnabled (s : State) (det : Det) : Bool := det &&& (1#1 ++ s.fpu.fpsr.extractLsb' 5 5) != 0

/-- Completion (R658): the exception, or the preservation bits and the destination. -/
def State.fpComplete (s : State) (c : FpClass) (det : Det) (write : State → State) : State :=
  if s.fpEnabled det then s.fpException c det
  else State.advance
    (write { s with fpu := { s.fpu with fpsr := s.fpu.fpsr ||| (det.setWidth 5).setWidth 32 } }) 4

/-- The outcome with FS = 0, which leaves it open: any value, and any of the exceptions that the page lists, E among them
(R655, U31). -/
def State.fpFree (s : State) (listed : Det) : FpOut :=
  ⟨freeDword s.free, (freeWord (s.free + 1)).setWidth 6 &&& (listed ||| Det.e), 2⟩

/-- The outcome of an instruction that may detect the exceptions `listed`. -/
def State.fpOutcome (s : State) (listed : Det) (f : FpEnv → FpOut) : FpOut :=
  if s.fpOpen then s.fpFree listed else f s.fpEnv

/-- A floating-point instruction: `f` gives its outcome, `write` puts the default result in its destination. -/
def State.fpRun (s : State) (c : FpClass) (listed : Det) (f : FpEnv → FpOut) (write : DWord → State → State) :
    Result :=
  s.withFpu c
    (if s.fpInvalid then s.advance 4
     else
       let o := s.fpOutcome listed f
       State.fpComplete { s with free := s.free + o.used } c o.det (write o.value))

/-! ### Operands and destinations -/

/-- A single-precision operand. -/
def State.fpS (s : State) (r : Reg) : Operand := single.unpack ((s.reg r).setWidth 64)
/-- A double-precision operand. -/
def State.fpD (s : State) (p : Pair) : Operand := double.unpack (s.pair p)
/-- The result goes to a register. -/
def toReg (r : Reg) (v : DWord) (s : State) : State := s.setReg r (v.setWidth 32)
/-- The result goes to a register pair. -/
def toPair (p : Pair) (v : DWord) (s : State) : State := s.setPair p v
/-- The result goes to a condition bit of FPSR (R771). -/
def toCc (n : BitVec 3) (v : DWord) (s : State) : State :=
  { s with fpu := { s.fpu with fpsr := putBit s.fpu.fpsr (24 + n.toNat) (v.getLsbD 0) } }
/-- Condition bit `n` of FPSR. -/
def State.fcc (s : State) (n : BitVec 3) : Bool := s.fpu.fpsr.getLsbD (24 + n.toNat)

/-! ### Sets of exceptions that the pages list -/

/-- V, I, O, U. -/
def listVIOU : Det := Det.v ||| Det.i ||| Det.o ||| Det.u
/-- V, I, Z, O, U. -/
def listAll : Det := listVIOU ||| Det.z
/-- V, I. -/
def listVI : Det := Det.v ||| Det.i

end Sys2Proof.Machine
end

