-- ==== Sys2Proof/Machine/FpuArith.lean ====
section
/-! DEFINITION. Floating-point arithmetic instructions (R667 to R695). -/
namespace Sys2Proof.Machine

/-- The sign of a result inverted, with what it detects (R667, step 6). -/
def negated (r : Fp × Det) : Fp × Det := (r.1.neg, r.2)

/-- ADDF.D: reg2 plus reg1 (R672). -/
def execAddfD (reg1 : Pair) (reg2 : Pair) (reg3 : Pair) (s : State) : Result :=
  let a := s.fpD reg1
  let b := s.fpD reg2
  s.fpRun .double listVIOU
    (fun env => double.deliver env [b, a] (b.val.add a.val))
    (toPair reg3)

/-- ADDF.S: reg2 plus reg1 (R673). -/
def execAddfS (reg1 : Reg) (reg2 : Reg) (reg3 : Reg) (s : State) : Result :=
  let a := s.fpS reg1
  let b := s.fpS reg2
  s.fpRun .single listVIOU
    (fun env => single.deliver env [b, a] (b.val.add a.val))
    (toReg reg3)

/-- SUBF.D: reg2 minus reg1 (R694). -/
def execSubfD (reg1 : Pair) (reg2 : Pair) (reg3 : Pair) (s : State) : Result :=
  let a := s.fpD reg1
  let b := s.fpD reg2
  s.fpRun .double listVIOU
    (fun env => double.deliver env [b, a] (b.val.add a.val.neg))
    (toPair reg3)

/-- SUBF.S: reg2 minus reg1 (R695). -/
def execSubfS (reg1 : Reg) (reg2 : Reg) (reg3 : Reg) (s : State) : Result :=
  let a := s.fpS reg1
  let b := s.fpS reg2
  s.fpRun .single listVIOU
    (fun env => single.deliver env [b, a] (b.val.add a.val.neg))
    (toReg reg3)

/-- MULF.D: reg2 times reg1 (R682). -/
def execMulfD (reg1 : Pair) (reg2 : Pair) (reg3 : Pair) (s : State) : Result :=
  let a := s.fpD reg1
  let b := s.fpD reg2
  s.fpRun .double listVIOU
    (fun env => double.deliver env [b, a] (b.val.mul a.val))
    (toPair reg3)

/-- MULF.S: reg2 times reg1 (R683). -/
def execMulfS (reg1 : Reg) (reg2 : Reg) (reg3 : Reg) (s : State) : Result :=
  let a := s.fpS reg1
  let b := s.fpS reg2
  s.fpRun .single listVIOU
    (fun env => single.deliver env [b, a] (b.val.mul a.val))
    (toReg reg3)

/-- DIVF.D: reg2 divided by reg1 (R674). -/
def execDivfD (reg1 : Pair) (reg2 : Pair) (reg3 : Pair) (s : State) : Result :=
  let a := s.fpD reg1
  let b := s.fpD reg2
  s.fpRun .double listAll
    (fun env => double.deliver env [b, a] (b.val.div double a.val))
    (toPair reg3)

/-- DIVF.S: reg2 divided by reg1 (R675). -/
def execDivfS (reg1 : Reg) (reg2 : Reg) (reg3 : Reg) (s : State) : Result :=
  let a := s.fpS reg1
  let b := s.fpS reg2
  s.fpRun .single listAll
    (fun env => single.deliver env [b, a] (b.val.div single a.val))
    (toReg reg3)

/-- MAXF.D: the larger of reg2 and reg1 (R677). -/
def execMaxfD (reg1 : Pair) (reg2 : Pair) (reg3 : Pair) (s : State) : Result :=
  s.fpRun .double Det.v
    (fun env => double.extreme env true (s.fpD reg2) (s.fpD reg1))
    (toPair reg3)

/-- MAXF.S: the larger of reg2 and reg1 (R678). -/
def execMaxfS (reg1 : Reg) (reg2 : Reg) (reg3 : Reg) (s : State) : Result :=
  s.fpRun .single Det.v
    (fun env => single.extreme env true (s.fpS reg2) (s.fpS reg1))
    (toReg reg3)

/-- MINF.D: the smaller of reg2 and reg1 (R679). -/
def execMinfD (reg1 : Pair) (reg2 : Pair) (reg3 : Pair) (s : State) : Result :=
  s.fpRun .double Det.v
    (fun env => double.extreme env false (s.fpD reg2) (s.fpD reg1))
    (toPair reg3)

/-- MINF.S: the smaller of reg2 and reg1 (R680). -/
def execMinfS (reg1 : Reg) (reg2 : Reg) (reg3 : Reg) (s : State) : Result :=
  s.fpRun .single Det.v
    (fun env => single.extreme env false (s.fpS reg2) (s.fpS reg1))
    (toReg reg3)

/-- ABSF.D: the magnitude of reg2 (R670). -/
def execAbsfD (reg2 : Pair) (reg3 : Pair) (s : State) : Result :=
  let a := s.fpD reg2
  s.fpRun .double listVI
    (fun env => double.deliver env [a] (a.val.abs, 0))
    (toPair reg3)

/-- ABSF.S: the magnitude of reg2 (R671). -/
def execAbsfS (reg2 : Reg) (reg3 : Reg) (s : State) : Result :=
  let a := s.fpS reg2
  s.fpRun .single listVI
    (fun env => single.deliver env [a] (a.val.abs, 0))
    (toReg reg3)

/-- NEGF.D: reg2 negated (R684). -/
def execNegfD (reg2 : Pair) (reg3 : Pair) (s : State) : Result :=
  let a := s.fpD reg2
  s.fpRun .double listVI
    (fun env => double.deliver env [a] (a.val.neg, 0))
    (toPair reg3)

/-- NEGF.S: reg2 negated (R685). -/
def execNegfS (reg2 : Reg) (reg3 : Reg) (s : State) : Result :=
  let a := s.fpS reg2
  s.fpRun .single listVI
    (fun env => single.deliver env [a] (a.val.neg, 0))
    (toReg reg3)

/-- SQRTF.D: the square root of reg2 (R692). -/
def execSqrtfD (reg2 : Pair) (reg3 : Pair) (s : State) : Result :=
  let a := s.fpD reg2
  s.fpRun .double listVI
    (fun env => double.deliver env [a] (a.val.sqrt double))
    (toPair reg3)

/-- SQRTF.S: the square root of reg2 (R693). -/
def execSqrtfS (reg2 : Reg) (reg3 : Reg) (s : State) : Result :=
  let a := s.fpS reg2
  s.fpRun .single listVI
    (fun env => single.deliver env [a] (a.val.sqrt single))
    (toReg reg3)

/-- RECIPF.D: the reciprocal of reg2 (R688). -/
def execRecipfD (reg2 : Pair) (reg3 : Pair) (s : State) : Result :=
  let a := s.fpD reg2
  s.fpRun .double listAll
    (fun env => double.approximate env [a] (a.val.recip double))
    (toPair reg3)

/-- RECIPF.S: the reciprocal of reg2 (R689). -/
def execRecipfS (reg2 : Reg) (reg3 : Reg) (s : State) : Result :=
  let a := s.fpS reg2
  s.fpRun .single listAll
    (fun env => single.approximate env [a] (a.val.recip single))
    (toReg reg3)

/-- RSQRTF.D: the reciprocal of the square root of reg2 (R690). -/
def execRsqrtfD (reg2 : Pair) (reg3 : Pair) (s : State) : Result :=
  let a := s.fpD reg2
  s.fpRun .double listAll
    (fun env => double.approximate env [a] (a.val.rsqrt double))
    (toPair reg3)

/-- RSQRTF.S: the reciprocal of the square root of reg2 (R691). -/
def execRsqrtfS (reg2 : Reg) (reg3 : Reg) (s : State) : Result :=
  let a := s.fpS reg2
  s.fpRun .single listAll
    (fun env => single.approximate env [a] (a.val.rsqrt single))
    (toReg reg3)

/-- MADDF.S: reg2 times reg1 plus reg3, rounded once (R676, R667). -/
def execMaddfS (reg1 : Reg) (reg2 : Reg) (reg3 : Reg) (reg4 : Reg) (s : State) : Result :=
  let a := s.fpS reg1
  let b := s.fpS reg2
  let c := s.fpS reg3
  s.fpRun .single listVIOU
    (fun env => single.deliver env [b, a, c] (Fp.fused single env (b.val.mul a.val) c.val))
    (toReg reg4)

/-- MSUBF.S: reg2 times reg1 minus reg3, rounded once (R681, R667). -/
def execMsubfS (reg1 : Reg) (reg2 : Reg) (reg3 : Reg) (reg4 : Reg) (s : State) : Result :=
  let a := s.fpS reg1
  let b := s.fpS reg2
  let c := s.fpS reg3
  s.fpRun .single listVIOU
    (fun env => single.deliver env [b, a, c] (Fp.fused single env (b.val.mul a.val) c.val.neg))
    (toReg reg4)

/-- NMADDF.S: the negation of reg2 times reg1 plus reg3, rounded once (R686, R667). -/
def execNmaddfS (reg1 : Reg) (reg2 : Reg) (reg3 : Reg) (reg4 : Reg) (s : State) : Result :=
  let a := s.fpS reg1
  let b := s.fpS reg2
  let c := s.fpS reg3
  s.fpRun .single listVIOU
    (fun env => single.deliver env [b, a, c] (negated (Fp.fused single env (b.val.mul a.val) c.val)))
    (toReg reg4)

/-- NMSUBF.S: the negation of reg2 times reg1 minus reg3, rounded once (R687, R667). -/
def execNmsubfS (reg1 : Reg) (reg2 : Reg) (reg3 : Reg) (reg4 : Reg) (s : State) : Result :=
  let a := s.fpS reg1
  let b := s.fpS reg2
  let c := s.fpS reg3
  s.fpRun .single listVIOU
    (fun env => single.deliver env [b, a, c] (negated (Fp.fused single env (b.val.mul a.val) c.val.neg)))
    (toReg reg4)

end Sys2Proof.Machine
end

