-- ==== Sys2Proof/Machine/FpuConvert.lean ====
section
/-! DEFINITION. Floating-point conversion, comparison, conditional move and flag transfer (R700 to R778). -/
namespace Sys2Proof.Machine

/-- CEILF.DL: to an integer, rounded toward +∞ (R710). -/
def execCeilfDl (reg2 : Pair) (reg3 : Pair) (s : State) : Result :=
  s.fpRun .double listVI
    (fun _ => toInteger .up fmtL (s.fpD reg2))
    (toPair reg3)

/-- CEILF.DUL: to an integer, rounded toward +∞ (R711). -/
def execCeilfDul (reg2 : Pair) (reg3 : Pair) (s : State) : Result :=
  s.fpRun .double listVI
    (fun _ => toInteger .up fmtUL (s.fpD reg2))
    (toPair reg3)

/-- CEILF.DUW: to an integer, rounded toward +∞ (R712). -/
def execCeilfDuw (reg2 : Pair) (reg3 : Reg) (s : State) : Result :=
  s.fpRun .double listVI
    (fun _ => toInteger .up fmtUW (s.fpD reg2))
    (toReg reg3)

/-- CEILF.DW: to an integer, rounded toward +∞ (R713). -/
def execCeilfDw (reg2 : Pair) (reg3 : Reg) (s : State) : Result :=
  s.fpRun .double listVI
    (fun _ => toInteger .up fmtW (s.fpD reg2))
    (toReg reg3)

/-- CEILF.SL: to an integer, rounded toward +∞ (R714). -/
def execCeilfSl (reg2 : Reg) (reg3 : Pair) (s : State) : Result :=
  s.fpRun .single listVI
    (fun _ => toInteger .up fmtL (s.fpS reg2))
    (toPair reg3)

/-- CEILF.SUL: to an integer, rounded toward +∞ (R715). -/
def execCeilfSul (reg2 : Reg) (reg3 : Pair) (s : State) : Result :=
  s.fpRun .single listVI
    (fun _ => toInteger .up fmtUL (s.fpS reg2))
    (toPair reg3)

/-- CEILF.SUW: to an integer, rounded toward +∞ (R716). -/
def execCeilfSuw (reg2 : Reg) (reg3 : Reg) (s : State) : Result :=
  s.fpRun .single listVI
    (fun _ => toInteger .up fmtUW (s.fpS reg2))
    (toReg reg3)

/-- CEILF.SW: to an integer, rounded toward +∞ (R717). -/
def execCeilfSw (reg2 : Reg) (reg3 : Reg) (s : State) : Result :=
  s.fpRun .single listVI
    (fun _ => toInteger .up fmtW (s.fpS reg2))
    (toReg reg3)

/-- FLOORF.DL: to an integer, rounded toward -∞ (R720). -/
def execFloorfDl (reg2 : Pair) (reg3 : Pair) (s : State) : Result :=
  s.fpRun .double listVI
    (fun _ => toInteger .down fmtL (s.fpD reg2))
    (toPair reg3)

/-- FLOORF.DUL: to an integer, rounded toward -∞ (R721). -/
def execFloorfDul (reg2 : Pair) (reg3 : Pair) (s : State) : Result :=
  s.fpRun .double listVI
    (fun _ => toInteger .down fmtUL (s.fpD reg2))
    (toPair reg3)

/-- FLOORF.DUW: to an integer, rounded toward -∞ (R722). -/
def execFloorfDuw (reg2 : Pair) (reg3 : Reg) (s : State) : Result :=
  s.fpRun .double listVI
    (fun _ => toInteger .down fmtUW (s.fpD reg2))
    (toReg reg3)

/-- FLOORF.DW: to an integer, rounded toward -∞ (R723). -/
def execFloorfDw (reg2 : Pair) (reg3 : Reg) (s : State) : Result :=
  s.fpRun .double listVI
    (fun _ => toInteger .down fmtW (s.fpD reg2))
    (toReg reg3)

/-- FLOORF.SL: to an integer, rounded toward -∞ (R724). -/
def execFloorfSl (reg2 : Reg) (reg3 : Pair) (s : State) : Result :=
  s.fpRun .single listVI
    (fun _ => toInteger .down fmtL (s.fpS reg2))
    (toPair reg3)

/-- FLOORF.SUL: to an integer, rounded toward -∞ (R725). -/
def execFloorfSul (reg2 : Reg) (reg3 : Pair) (s : State) : Result :=
  s.fpRun .single listVI
    (fun _ => toInteger .down fmtUL (s.fpS reg2))
    (toPair reg3)

/-- FLOORF.SUW: to an integer, rounded toward -∞ (R726). -/
def execFloorfSuw (reg2 : Reg) (reg3 : Reg) (s : State) : Result :=
  s.fpRun .single listVI
    (fun _ => toInteger .down fmtUW (s.fpS reg2))
    (toReg reg3)

/-- FLOORF.SW: to an integer, rounded toward -∞ (R727). -/
def execFloorfSw (reg2 : Reg) (reg3 : Reg) (s : State) : Result :=
  s.fpRun .single listVI
    (fun _ => toInteger .down fmtW (s.fpS reg2))
    (toReg reg3)

/-- TRNCF.DL: to an integer, rounded toward zero (R730). -/
def execTrncfDl (reg2 : Pair) (reg3 : Pair) (s : State) : Result :=
  s.fpRun .double listVI
    (fun _ => toInteger .zero fmtL (s.fpD reg2))
    (toPair reg3)

/-- TRNCF.DUL: to an integer, rounded toward zero (R731). -/
def execTrncfDul (reg2 : Pair) (reg3 : Pair) (s : State) : Result :=
  s.fpRun .double listVI
    (fun _ => toInteger .zero fmtUL (s.fpD reg2))
    (toPair reg3)

/-- TRNCF.DUW: to an integer, rounded toward zero (R732). -/
def execTrncfDuw (reg2 : Pair) (reg3 : Reg) (s : State) : Result :=
  s.fpRun .double listVI
    (fun _ => toInteger .zero fmtUW (s.fpD reg2))
    (toReg reg3)

/-- TRNCF.DW: to an integer, rounded toward zero (R733). -/
def execTrncfDw (reg2 : Pair) (reg3 : Reg) (s : State) : Result :=
  s.fpRun .double listVI
    (fun _ => toInteger .zero fmtW (s.fpD reg2))
    (toReg reg3)

/-- TRNCF.SL: to an integer, rounded toward zero (R734). -/
def execTrncfSl (reg2 : Reg) (reg3 : Pair) (s : State) : Result :=
  s.fpRun .single listVI
    (fun _ => toInteger .zero fmtL (s.fpS reg2))
    (toPair reg3)

/-- TRNCF.SUL: to an integer, rounded toward zero (R735). -/
def execTrncfSul (reg2 : Reg) (reg3 : Pair) (s : State) : Result :=
  s.fpRun .single listVI
    (fun _ => toInteger .zero fmtUL (s.fpS reg2))
    (toPair reg3)

/-- TRNCF.SUW: to an integer, rounded toward zero (R736). -/
def execTrncfSuw (reg2 : Reg) (reg3 : Reg) (s : State) : Result :=
  s.fpRun .single listVI
    (fun _ => toInteger .zero fmtUW (s.fpS reg2))
    (toReg reg3)

/-- TRNCF.SW: to an integer, rounded toward zero (R737). -/
def execTrncfSw (reg2 : Reg) (reg3 : Reg) (s : State) : Result :=
  s.fpRun .single listVI
    (fun _ => toInteger .zero fmtW (s.fpS reg2))
    (toReg reg3)

/-- CVTF.DL: to an integer, rounded to nearest (R740). -/
def execCvtfDl (reg2 : Pair) (reg3 : Pair) (s : State) : Result :=
  s.fpRun .double listVI
    (fun _ => toInteger .nearest fmtL (s.fpD reg2))
    (toPair reg3)

/-- CVTF.DUL: to an integer, rounded to nearest (R742). -/
def execCvtfDul (reg2 : Pair) (reg3 : Pair) (s : State) : Result :=
  s.fpRun .double listVI
    (fun _ => toInteger .nearest fmtUL (s.fpD reg2))
    (toPair reg3)

/-- CVTF.DUW: to an integer, rounded to nearest (R743). -/
def execCvtfDuw (reg2 : Pair) (reg3 : Reg) (s : State) : Result :=
  s.fpRun .double listVI
    (fun _ => toInteger .nearest fmtUW (s.fpD reg2))
    (toReg reg3)

/-- CVTF.DW: to an integer, rounded to nearest (R744). -/
def execCvtfDw (reg2 : Pair) (reg3 : Reg) (s : State) : Result :=
  s.fpRun .double listVI
    (fun _ => toInteger .nearest fmtW (s.fpD reg2))
    (toReg reg3)

/-- CVTF.SL: to an integer, rounded to nearest (R748). -/
def execCvtfSl (reg2 : Reg) (reg3 : Pair) (s : State) : Result :=
  s.fpRun .single listVI
    (fun _ => toInteger .nearest fmtL (s.fpS reg2))
    (toPair reg3)

/-- CVTF.SUL: to an integer, rounded to nearest (R749). -/
def execCvtfSul (reg2 : Reg) (reg3 : Pair) (s : State) : Result :=
  s.fpRun .single listVI
    (fun _ => toInteger .nearest fmtUL (s.fpS reg2))
    (toPair reg3)

/-- CVTF.SUW: to an integer, rounded to nearest (R750). -/
def execCvtfSuw (reg2 : Reg) (reg3 : Reg) (s : State) : Result :=
  s.fpRun .single listVI
    (fun _ => toInteger .nearest fmtUW (s.fpS reg2))
    (toReg reg3)

/-- CVTF.SW: to an integer, rounded to nearest (R751). -/
def execCvtfSw (reg2 : Reg) (reg3 : Reg) (s : State) : Result :=
  s.fpRun .single listVI
    (fun _ => toInteger .nearest fmtW (s.fpS reg2))
    (toReg reg3)

/-- CVTF.DS: to single precision (R741). -/
def execCvtfDs (reg2 : Pair) (reg3 : Reg) (s : State) : Result :=
  let a := s.fpD reg2
  s.fpRun .double listVIOU
    (fun env => single.deliver env [a] (a.val, 0))
    (toReg reg3)

/-- CVTF.SD: to double precision (R747). -/
def execCvtfSd (reg2 : Reg) (reg3 : Pair) (s : State) : Result :=
  let a := s.fpS reg2
  s.fpRun .double listVI
    (fun env => double.deliver env [a] (a.val, 0))
    (toPair reg3)

/-- CVTF.LD: signed 64-bit integer to double precision (R745). -/
def execCvtfLd (reg2 : Pair) (reg3 : Pair) (s : State) : Result :=
  s.fpRun .double Det.i
    (fun env => double.ofInteger env (s.pair reg2).toInt)
    (toPair reg3)

/-- CVTF.LS: signed 64-bit integer to single precision (R746). -/
def execCvtfLs (reg2 : Pair) (reg3 : Reg) (s : State) : Result :=
  s.fpRun .single Det.i
    (fun env => single.ofInteger env (s.pair reg2).toInt)
    (toReg reg3)

/-- CVTF.ULD: unsigned 64-bit integer to double precision (R752). -/
def execCvtfUld (reg2 : Pair) (reg3 : Pair) (s : State) : Result :=
  s.fpRun .double Det.i
    (fun env => double.ofInteger env ((s.pair reg2).toNat : Int))
    (toPair reg3)

/-- CVTF.ULS: unsigned 64-bit integer to single precision (R753). -/
def execCvtfUls (reg2 : Pair) (reg3 : Reg) (s : State) : Result :=
  s.fpRun .single Det.i
    (fun env => single.ofInteger env ((s.pair reg2).toNat : Int))
    (toReg reg3)

/-- CVTF.WD: signed 32-bit integer to double precision (R756). -/
def execCvtfWd (reg2 : Reg) (reg3 : Pair) (s : State) : Result :=
  s.fpRun .double Det.i
    (fun env => double.ofInteger env (s.reg reg2).toInt)
    (toPair reg3)

/-- CVTF.WS: signed 32-bit integer to single precision (R757). -/
def execCvtfWs (reg2 : Reg) (reg3 : Reg) (s : State) : Result :=
  s.fpRun .single Det.i
    (fun env => single.ofInteger env (s.reg reg2).toInt)
    (toReg reg3)

/-- CVTF.UWD: unsigned 32-bit integer to double precision (R754). -/
def execCvtfUwd (reg2 : Reg) (reg3 : Pair) (s : State) : Result :=
  s.fpRun .double Det.i
    (fun env => double.ofInteger env ((s.reg reg2).toNat : Int))
    (toPair reg3)

/-- CVTF.UWS: unsigned 32-bit integer to single precision (R755). -/
def execCvtfUws (reg2 : Reg) (reg3 : Reg) (s : State) : Result :=
  s.fpRun .single Det.i
    (fun env => single.ofInteger env ((s.reg reg2).toNat : Int))
    (toReg reg3)

/-- CMPF.D: a comparison of reg2 with reg1, to a condition bit (R771). -/
def execCmpfD (fcond : BitVec 4) (reg2 : Pair) (reg1 : Pair) (fcbit : BitVec 3) (s : State) : Result :=
  s.fpRun .double Det.v
    (fun env => compareFp env fcond (s.fpD reg2) (s.fpD reg1))
    (toCc fcbit)

/-- CMPF.S: a comparison of reg2 with reg1, to a condition bit (R772). -/
def execCmpfS (fcond : BitVec 4) (reg2 : Reg) (reg1 : Reg) (fcbit : BitVec 3) (s : State) : Result :=
  s.fpRun .single Det.v
    (fun env => compareFp env fcond (s.fpS reg2) (s.fpS reg1))
    (toCc fcbit)

/-- CMOVF.D: reg1 or reg2 by a condition bit, bit for bit (R775). -/
def execCmovfD (fcbit : BitVec 3) (reg1 : Pair) (reg2 : Pair) (reg3 : Pair) (s : State) : Result :=
  let v := if s.fcc fcbit then s.pair reg1 else s.pair reg2
  s.withFpu .double (State.advance (if s.fpInvalid then s else s.setPair reg3 v) 4)

/-- CMOVF.S: reg1 or reg2 by a condition bit, bit for bit (R776). -/
def execCmovfS (fcbit : BitVec 3) (reg1 : Reg) (reg2 : Reg) (reg3 : Reg) (s : State) : Result :=
  let v := if s.fcc fcbit then s.reg reg1 else s.reg reg2
  s.withFpu .single (State.advance (if s.fpInvalid then s else s.setReg reg3 v) 4)

/-- TRFSR: a condition bit to PSW.Z; never invalidated (R778, R663). -/
def execTrfsr (fcbit : BitVec 3) (s : State) : Result := s.withFpu .single ((s.putZ (s.fcc fcbit)).advance 4)

end Sys2Proof.Machine
end

