-- ==== Sys2Proof/Machine/LoadStore.lean ====
section
/-! DEFINITION. Load and store instructions (R340 to R369). -/
namespace Sys2Proof.Machine

/-- LD.B: load a byte, sign-extended (R340). -/
def execLdB (disp : BitVec 16) (reg1 : Reg) (reg2 : Reg) (s : State) : Result :=
  s.loadInto (s.based reg1 (sext disp)) 1 (reg1 == spReg) sextB reg2 4

/-- LD.BU: load a byte, zero-extended (R342). -/
def execLdBu (disp : BitVec 16) (reg1 : Reg) (reg2 : Reg) (s : State) : Result :=
  s.loadInto (s.based reg1 (sext disp)) 1 (reg1 == spReg) zextB reg2 4

/-- LD.H: load a halfword, sign-extended (R344). -/
def execLdH (disp : BitVec 15) (reg1 : Reg) (reg2 : Reg) (s : State) : Result :=
  s.loadInto (s.based reg1 (sext (even disp))) 2 (reg1 == spReg) sextH reg2 4

/-- LD.HU: load a halfword, zero-extended (R346). -/
def execLdHu (disp : BitVec 15) (reg1 : Reg) (reg2 : Reg) (s : State) : Result :=
  s.loadInto (s.based reg1 (sext (even disp))) 2 (reg1 == spReg) zextH reg2 4

/-- LD.W: load a word (R348). -/
def execLdW (disp : BitVec 15) (reg1 : Reg) (reg2 : Reg) (s : State) : Result :=
  s.loadInto (s.based reg1 (sext (even disp))) 4 (reg1 == spReg) id reg2 4

/-- LD.B: load a byte, sign-extended, long displacement (R341). -/
def execLdB23 (disp : BitVec 23) (reg1 : Reg) (reg3 : Reg) (s : State) : Result :=
  s.loadInto (s.based reg1 (sext disp)) 1 (reg1 == spReg) sextB reg3 6

/-- LD.BU: load a byte, zero-extended, long displacement (R343). -/
def execLdBu23 (disp : BitVec 23) (reg1 : Reg) (reg3 : Reg) (s : State) : Result :=
  s.loadInto (s.based reg1 (sext disp)) 1 (reg1 == spReg) zextB reg3 6

/-- LD.H: load a halfword, sign-extended, long displacement (R345). -/
def execLdH23 (disp : BitVec 22) (reg1 : Reg) (reg3 : Reg) (s : State) : Result :=
  s.loadInto (s.based reg1 (sext (even disp))) 2 (reg1 == spReg) sextH reg3 6

/-- LD.HU: load a halfword, zero-extended, long displacement (R347). -/
def execLdHu23 (disp : BitVec 22) (reg1 : Reg) (reg3 : Reg) (s : State) : Result :=
  s.loadInto (s.based reg1 (sext (even disp))) 2 (reg1 == spReg) zextH reg3 6

/-- LD.W: load a word, long displacement (R349). -/
def execLdW23 (disp : BitVec 22) (reg1 : Reg) (reg3 : Reg) (s : State) : Result :=
  s.loadInto (s.based reg1 (sext (even disp))) 4 (reg1 == spReg) id reg3 6

/-- SLD.B: short load of a byte, sign-extended (R350). -/
def execSldB (disp : BitVec 7) (reg2 : Reg) (s : State) : Result :=
  s.loadInto (s.epBased (zext disp)) 1 false sextB reg2 2

/-- SLD.BU: short load of a byte, zero-extended (R351). -/
def execSldBu (disp : BitVec 4) (reg2 : Reg) (s : State) : Result :=
  s.loadInto (s.epBased (zext disp)) 1 false zextB reg2 2

/-- SLD.H: short load of a halfword, sign-extended (R352). -/
def execSldH (disp : BitVec 7) (reg2 : Reg) (s : State) : Result :=
  s.loadInto (s.epBased (zext (even disp))) 2 false sextH reg2 2

/-- SLD.HU: short load of a halfword, zero-extended (R353). -/
def execSldHu (disp : BitVec 4) (reg2 : Reg) (s : State) : Result :=
  s.loadInto (s.epBased (zext (even disp))) 2 false zextH reg2 2

/-- SLD.W: short load of a word (R354). -/
def execSldW (disp : BitVec 6) (reg2 : Reg) (s : State) : Result :=
  s.loadInto (s.epBased (zext (quad disp))) 4 false id reg2 2

/-- ST.B: store a byte (R357). -/
def execStB (reg2 : Reg) (disp : BitVec 16) (reg1 : Reg) (s : State) : Result :=
  s.storeFrom (s.based reg1 (sext disp)) (s.reg reg2) 1 (reg1 == spReg) 4

/-- ST.B: store a byte, long displacement (R358). -/
def execStB23 (reg3 : Reg) (disp : BitVec 23) (reg1 : Reg) (s : State) : Result :=
  s.storeFrom (s.based reg1 (sext disp)) (s.reg reg3) 1 (reg1 == spReg) 6

/-- ST.H: store a halfword (R359). -/
def execStH (reg2 : Reg) (disp : BitVec 15) (reg1 : Reg) (s : State) : Result :=
  s.storeFrom (s.based reg1 (sext (even disp))) (s.reg reg2) 2 (reg1 == spReg) 4

/-- ST.H: store a halfword, long displacement (R360). -/
def execStH23 (reg3 : Reg) (disp : BitVec 22) (reg1 : Reg) (s : State) : Result :=
  s.storeFrom (s.based reg1 (sext (even disp))) (s.reg reg3) 2 (reg1 == spReg) 6

/-- ST.W: store a word (R361). -/
def execStW (reg2 : Reg) (disp : BitVec 15) (reg1 : Reg) (s : State) : Result :=
  s.storeFrom (s.based reg1 (sext (even disp))) (s.reg reg2) 4 (reg1 == spReg) 4

/-- ST.W: store a word, long displacement (R362). -/
def execStW23 (reg3 : Reg) (disp : BitVec 22) (reg1 : Reg) (s : State) : Result :=
  s.storeFrom (s.based reg1 (sext (even disp))) (s.reg reg3) 4 (reg1 == spReg) 6

/-- SST.B: short store of a byte (R363). -/
def execSstB (reg2 : Reg) (disp : BitVec 7) (s : State) : Result :=
  s.storeFrom (s.epBased (zext disp)) (s.reg reg2) 1 false 2

/-- SST.H: short store of a halfword (R364). -/
def execSstH (reg2 : Reg) (disp : BitVec 7) (s : State) : Result :=
  s.storeFrom (s.epBased (zext (even disp))) (s.reg reg2) 2 false 2

/-- SST.W: short store of a word (R365). -/
def execSstW (reg2 : Reg) (disp : BitVec 6) (s : State) : Result :=
  s.storeFrom (s.epBased (zext (quad disp))) (s.reg reg2) 4 false 2

end Sys2Proof.Machine
end

