-- ==== Sys2Proof/Machine/Logic.lean ====
section
/-! DEFINITION. Saturated operation and logical instructions (R440 to R459). -/
namespace Sys2Proof.Machine

/-- SATADD: saturated reg2 plus reg1 (R440). -/
def execSatadd (reg1 : Reg) (reg2 : Reg) (s : State) : Result :=
  .next (s.saturated reg2 (addc (s.reg reg2) (s.reg reg1) false) 2)

/-- SATADD: saturated reg2 plus a signed immediate (R441). -/
def execSataddImm5 (imm5 : BitVec 5) (reg2 : Reg) (s : State) : Result :=
  .next (s.saturated reg2 (addc (s.reg reg2) (sext imm5) false) 2)

/-- SATADD: saturated reg2 plus reg1, to reg3 (R442). -/
def execSatadd3 (reg1 : Reg) (reg2 : Reg) (reg3 : Reg) (s : State) : Result :=
  .next (s.saturated reg3 (addc (s.reg reg2) (s.reg reg1) false) 4)

/-- SATSUB: saturated reg2 minus reg1 (R443). -/
def execSatsub (reg1 : Reg) (reg2 : Reg) (s : State) : Result :=
  .next (s.saturated reg2 (subc (s.reg reg2) (s.reg reg1) false) 2)

/-- SATSUB: saturated reg2 minus reg1, to reg3 (R444). -/
def execSatsub3 (reg1 : Reg) (reg2 : Reg) (reg3 : Reg) (s : State) : Result :=
  .next (s.saturated reg3 (subc (s.reg reg2) (s.reg reg1) false) 4)

/-- SATSUBI: saturated reg1 minus a signed immediate (R445). -/
def execSatsubi (imm16 : Half) (reg1 : Reg) (reg2 : Reg) (s : State) : Result :=
  .next (s.saturated reg2 (subc (s.reg reg1) (sext imm16) false) 4)

/-- SATSUBR: saturated reg1 minus reg2 (R446). -/
def execSatsubr (reg1 : Reg) (reg2 : Reg) (s : State) : Result :=
  .next (s.saturated reg2 (subc (s.reg reg1) (s.reg reg2) false) 2)

/-- AND: reg2 AND reg1 (R451). -/
def execAnd (reg1 : Reg) (reg2 : Reg) (s : State) : Result := .next (s.logical reg2 (s.reg reg2 &&& s.reg reg1) 2)

/-- ANDI: reg1 AND a zero-extended immediate (R452). -/
def execAndi (imm16 : Half) (reg1 : Reg) (reg2 : Reg) (s : State) : Result :=
  .next (s.logical reg2 (s.reg reg1 &&& zext imm16) 4)

/-- NOT: the complement of reg1 (R453). -/
def execNot (reg1 : Reg) (reg2 : Reg) (s : State) : Result := .next (s.logical reg2 (~~~s.reg reg1) 2)

/-- OR: reg2 OR reg1 (R454). -/
def execOr (reg1 : Reg) (reg2 : Reg) (s : State) : Result := .next (s.logical reg2 (s.reg reg2 ||| s.reg reg1) 2)

/-- ORI: reg1 OR a zero-extended immediate (R455). -/
def execOri (imm16 : Half) (reg1 : Reg) (reg2 : Reg) (s : State) : Result :=
  .next (s.logical reg2 (s.reg reg1 ||| zext imm16) 4)

/-- TST: the flags of reg2 AND reg1 (R456). -/
def execTst (reg1 : Reg) (reg2 : Reg) (s : State) : Result := .next ((s.putLogic (s.reg reg2 &&& s.reg reg1)).advance 2)

/-- XOR: reg2 XOR reg1 (R457). -/
def execXor (reg1 : Reg) (reg2 : Reg) (s : State) : Result := .next (s.logical reg2 (s.reg reg2 ^^^ s.reg reg1) 2)

/-- XORI: reg1 XOR a zero-extended immediate (R458). -/
def execXori (imm16 : Half) (reg1 : Reg) (reg2 : Reg) (s : State) : Result :=
  .next (s.logical reg2 (s.reg reg1 ^^^ zext imm16) 4)

end Sys2Proof.Machine
end

