-- ==== Sys2Proof/Syntax.lean ====
section
/-! DEFINITION. The instructions of the V850E2M: one constructor for each row of spec/opcode_table.json, in its order.
Operands are the fields the encoding holds, before any extension: a displacement whose low bits the encoding does not
hold is kept without them (R293). `list` is the twelve register bits of list12: bits 31 to 21, then bit 0 (R294). -/
namespace Sys2Proof

inductive Instr where
  /-- NOP (R603). -/
  | nop
  /-- SYNCE (R243). -/
  | synce
  /-- SYNCM (R241). -/
  | syncm
  /-- SYNCP (R242). -/
  | syncp
  /-- MOV reg1,reg2 (R397). -/
  | mov (reg1 reg2 : Reg)
  /-- NOT reg1,reg2 (R453). -/
  | not (reg1 reg2 : Reg)
  /-- RIE (R602). -/
  | rie
  /-- SWITCH reg1 (R612). -/
  | switch (reg1 : Reg)
  /-- FETRAP vector4 (R592). -/
  | fetrap (vector4 : BitVec 4)
  /-- DIVH reg1,reg2 (R521). -/
  | divhReg (reg1 reg2 : Reg)
  /-- JMP [reg1] (R543). -/
  | jmp (reg1 : Reg)
  /-- SLD.BU disp4[ep],reg2 (R351). -/
  | sldBu (disp : BitVec 4) (reg2 : Reg)
  /-- SLD.HU disp5[ep],reg2 (R353). -/
  | sldHu (disp : BitVec 4) (reg2 : Reg)
  /-- ZXB reg1 (R496). -/
  | zxb (reg1 : Reg)
  /-- SXB reg1 (R494). -/
  | sxb (reg1 : Reg)
  /-- ZXH reg1 (R497). -/
  | zxh (reg1 : Reg)
  /-- SXH reg1 (R495). -/
  | sxh (reg1 : Reg)
  /-- SATSUBR reg1,reg2 (R446). -/
  | satsubr (reg1 reg2 : Reg)
  /-- SATSUB reg1,reg2 (R443). -/
  | satsub (reg1 reg2 : Reg)
  /-- SATADD reg1,reg2 (R440). -/
  | satadd (reg1 reg2 : Reg)
  /-- MULH reg1,reg2 (R412). -/
  | mulh (reg1 reg2 : Reg)
  /-- OR reg1,reg2 (R454). -/
  | or (reg1 reg2 : Reg)
  /-- XOR reg1,reg2 (R457). -/
  | xor (reg1 reg2 : Reg)
  /-- AND reg1,reg2 (R451). -/
  | and (reg1 reg2 : Reg)
  /-- TST reg1,reg2 (R456). -/
  | tst (reg1 reg2 : Reg)
  /-- SUBR reg1,reg2 (R405). -/
  | subr (reg1 reg2 : Reg)
  /-- SUB reg1,reg2 (R404). -/
  | sub (reg1 reg2 : Reg)
  /-- ADD reg1,reg2 (R390). -/
  | add (reg1 reg2 : Reg)
  /-- CMP reg1,reg2 (R394). -/
  | cmp (reg1 reg2 : Reg)
  /-- MOV imm5,reg2 (R398). -/
  | movImm5 (imm5 : BitVec 5) (reg2 : Reg)
  /-- SATADD imm5,reg2 (R441). -/
  | sataddImm5 (imm5 : BitVec 5) (reg2 : Reg)
  /-- CALLT imm6 (R581). -/
  | callt (imm6 : BitVec 6)
  /-- ADD imm5,reg2 (R391). -/
  | addImm5 (imm5 : BitVec 5) (reg2 : Reg)
  /-- CMP imm5,reg2 (R395). -/
  | cmpImm5 (imm5 : BitVec 5) (reg2 : Reg)
  /-- SHR imm5,reg2 (R489). -/
  | shrImm5 (imm5 : BitVec 5) (reg2 : Reg)
  /-- SAR imm5,reg2 (R486). -/
  | sarImm5 (imm5 : BitVec 5) (reg2 : Reg)
  /-- SHL imm5,reg2 (R492). -/
  | shlImm5 (imm5 : BitVec 5) (reg2 : Reg)
  /-- MULH imm5,reg2 (R413). -/
  | mulhImm5 (imm5 : BitVec 5) (reg2 : Reg)
  /-- SLD.B disp7[ep],reg2 (R350). -/
  | sldB (disp : BitVec 7) (reg2 : Reg)
  /-- SST.B reg2,disp7[ep] (R363). -/
  | sstB (reg2 : Reg) (disp : BitVec 7)
  /-- SLD.H disp8[ep],reg2 (R352). -/
  | sldH (disp : BitVec 7) (reg2 : Reg)
  /-- SST.H reg2,disp8[ep] (R364). -/
  | sstH (reg2 : Reg) (disp : BitVec 7)
  /-- SLD.W disp8[ep],reg2 (R354). -/
  | sldW (disp : BitVec 6) (reg2 : Reg)
  /-- SST.W reg2,disp8[ep] (R365). -/
  | sstW (reg2 : Reg) (disp : BitVec 6)
  /-- Bcond disp9 (R540). -/
  | bcond (cond : BitVec 4) (disp : BitVec 8)
  /-- JR disp32 (R547). -/
  | jr32 (disp : BitVec 31)
  /-- JARL disp32,reg1 (R542). -/
  | jarl32 (disp : BitVec 31) (reg1 : Reg)
  /-- ADDI imm16,reg1,reg2 (R392). -/
  | addi (imm16 : Half) (reg1 reg2 : Reg)
  /-- MOV imm32,reg1 (R399). -/
  | movImm32 (imm32 : Word) (reg1 : Reg)
  /-- MOVEA imm16,reg1,reg2 (R400). -/
  | movea (imm16 : Half) (reg1 reg2 : Reg)
  /-- MOVHI imm16,reg1,reg2 (R401). -/
  | movhi (imm16 : Half) (reg1 reg2 : Reg)
  /-- SATSUBI imm16,reg1,reg2 (R445). -/
  | satsubi (imm16 : Half) (reg1 reg2 : Reg)
  /-- DISPOSE list12,imm5 (R587). -/
  | dispose (list : BitVec 12) (imm5 : BitVec 5)
  /-- DISPOSE list12,imm5,[reg1] (R588). -/
  | disposeJmp (list : BitVec 12) (imm5 : BitVec 5) (reg1 : Reg)
  /-- ORI imm16,reg1,reg2 (R455). -/
  | ori (imm16 : Half) (reg1 reg2 : Reg)
  /-- XORI imm16,reg1,reg2 (R458). -/
  | xori (imm16 : Half) (reg1 reg2 : Reg)
  /-- ANDI imm16,reg1,reg2 (R452). -/
  | andi (imm16 : Half) (reg1 reg2 : Reg)
  /-- MULHI imm16,reg1,reg2 (R414). -/
  | mulhi (imm16 : Half) (reg1 reg2 : Reg)
  /-- JMP disp32[reg1] (R544). -/
  | jmp32 (disp : BitVec 31) (reg1 : Reg)
  /-- LD.B disp16[reg1],reg2 (R340). -/
  | ldB (disp : BitVec 16) (reg1 reg2 : Reg)
  /-- LD.H disp16[reg1],reg2 (R344). -/
  | ldH (disp : BitVec 15) (reg1 reg2 : Reg)
  /-- LD.W disp16[reg1],reg2 (R348). -/
  | ldW (disp : BitVec 15) (reg1 reg2 : Reg)
  /-- ST.B reg2,disp16[reg1] (R357). -/
  | stB (reg2 : Reg) (disp : BitVec 16) (reg1 : Reg)
  /-- ST.H reg2,disp16[reg1] (R359). -/
  | stH (reg2 : Reg) (disp : BitVec 15) (reg1 : Reg)
  /-- ST.W reg2,disp16[reg1] (R361). -/
  | stW (reg2 : Reg) (disp : BitVec 15) (reg1 : Reg)
  /-- PREPARE list12,imm5 (R599). -/
  | prepare (list : BitVec 12) (imm5 : BitVec 5)
  /-- PREPARE list12,imm5,sp (R600). -/
  | prepareSp (list : BitVec 12) (imm5 : BitVec 5)
  /-- PREPARE list12,imm5,imm16 (sign-extended) (R600). -/
  | prepareImm16 (list : BitVec 12) (imm5 : BitVec 5) (imm16 : Half)
  /-- PREPARE list12,imm5,imm16 (shifted left 16) (R600). -/
  | prepareImm16Shl (list : BitVec 12) (imm5 : BitVec 5) (imm16 : Half)
  /-- PREPARE list12,imm5,imm32 (R600). -/
  | prepareImm32 (list : BitVec 12) (imm5 : BitVec 5) (imm32 : Word)
  /-- JR disp22 (R546). -/
  | jr22 (disp : BitVec 21)
  /-- JARL disp22,reg2 (R541). -/
  | jarl22 (disp : BitVec 21) (reg2 : Reg)
  /-- LD.BU disp16[reg1],reg2 (R342). -/
  | ldBu (disp : BitVec 16) (reg1 reg2 : Reg)
  /-- LD.B disp23[reg1],reg3 (R341). -/
  | ldB23 (disp : BitVec 23) (reg1 reg3 : Reg)
  /-- LD.H disp23[reg1],reg3 (R345). -/
  | ldH23 (disp : BitVec 22) (reg1 reg3 : Reg)
  /-- LD.W disp23[reg1],reg3 (R349). -/
  | ldW23 (disp : BitVec 22) (reg1 reg3 : Reg)
  /-- ST.B reg3,disp23[reg1] (R358). -/
  | stB23 (reg3 : Reg) (disp : BitVec 23) (reg1 : Reg)
  /-- ST.W reg3,disp23[reg1] (R362). -/
  | stW23 (reg3 : Reg) (disp : BitVec 22) (reg1 : Reg)
  /-- LD.BU disp23[reg1],reg3 (R343). -/
  | ldBu23 (disp : BitVec 23) (reg1 reg3 : Reg)
  /-- LD.HU disp23[reg1],reg3 (R347). -/
  | ldHu23 (disp : BitVec 22) (reg1 reg3 : Reg)
  /-- ST.H reg3,disp23[reg1] (R360). -/
  | stH23 (reg3 : Reg) (disp : BitVec 22) (reg1 : Reg)
  /-- SET1 bit#3,disp16[reg1] (R552). -/
  | set1 (bit : BitVec 3) (disp : BitVec 16) (reg1 : Reg)
  /-- NOT1 bit#3,disp16[reg1] (R550). -/
  | not1 (bit : BitVec 3) (disp : BitVec 16) (reg1 : Reg)
  /-- CLR1 bit#3,disp16[reg1] (R548). -/
  | clr1 (bit : BitVec 3) (disp : BitVec 16) (reg1 : Reg)
  /-- TST1 bit#3,disp16[reg1] (R554). -/
  | tst1 (bit : BitVec 3) (disp : BitVec 16) (reg1 : Reg)
  /-- LD.HU disp16[reg1],reg2 (R346). -/
  | ldHu (disp : BitVec 15) (reg1 reg2 : Reg)
  /-- SETF cccc,reg2 (R488). -/
  | setf (cond : BitVec 4) (reg2 : Reg)
  /-- RIE imm5,imm4 (R602). -/
  | rieImm (imm5 : BitVec 5) (imm4 : BitVec 4)
  /-- LDSR reg2,regID (R596). -/
  | ldsr (reg2 : Reg) (regID : BitVec 5)
  /-- STSR regID,reg2 (R611). -/
  | stsr (regID : BitVec 5) (reg2 : Reg)
  /-- SHR reg1,reg2 (R490). -/
  | shr (reg1 reg2 : Reg)
  /-- SHR reg1,reg2,reg3 (R491). -/
  | shr3 (reg1 reg2 reg3 : Reg)
  /-- SAR reg1,reg2 (R485). -/
  | sar (reg1 reg2 : Reg)
  /-- SAR reg1,reg2,reg3 (R487). -/
  | sar3 (reg1 reg2 reg3 : Reg)
  /-- SHL reg1,reg2 (R493). -/
  | shl (reg1 reg2 : Reg)
  /-- SHL reg1,reg2,reg3 (R498). -/
  | shl3 (reg1 reg2 reg3 : Reg)
  /-- SET1 reg2,[reg1] (R553). -/
  | set1Reg (reg2 reg1 : Reg)
  /-- NOT1 reg2,[reg1] (R551). -/
  | not1Reg (reg2 reg1 : Reg)
  /-- CLR1 reg2,[reg1] (R549). -/
  | clr1Reg (reg2 reg1 : Reg)
  /-- TST1 reg2,[reg1] (R555). -/
  | tst1Reg (reg2 reg1 : Reg)
  /-- CAXI [reg1],reg2,reg3 (R580). -/
  | caxi (reg1 reg2 reg3 : Reg)
  /-- TRAP vector5 (R613). -/
  | trap (vector5 : BitVec 5)
  /-- HALT (R594). -/
  | halt
  /-- RETI (R601). -/
  | reti
  /-- CTRET (R583). -/
  | ctret
  /-- EIRET (R590). -/
  | eiret
  /-- FERET (R591). -/
  | feret
  /-- DI (R585). -/
  | di
  /-- EI (R589). -/
  | ei
  /-- SYSCALL vector8 (R614). -/
  | syscall (vector8 : BitVec 8)
  /-- SASF cccc,reg2 (R484). -/
  | sasf (cond : BitVec 4) (reg2 : Reg)
  /-- MUL reg1,reg2,reg3 (R410). -/
  | mul (reg1 reg2 reg3 : Reg)
  /-- MULU reg1,reg2,reg3 (R415). -/
  | mulu (reg1 reg2 reg3 : Reg)
  /-- MUL imm9,reg2,reg3 (R411). -/
  | mulImm9 (imm9 : BitVec 9) (reg2 reg3 : Reg)
  /-- MULU imm9,reg2,reg3 (R416). -/
  | muluImm9 (imm9 : BitVec 9) (reg2 reg3 : Reg)
  /-- DIVH reg1,reg2,reg3 (R522). -/
  | divh (reg1 reg2 reg3 : Reg)
  /-- DIVHU reg1,reg2,reg3 (R523). -/
  | divhu (reg1 reg2 reg3 : Reg)
  /-- DIV reg1,reg2,reg3 (R520). -/
  | div (reg1 reg2 reg3 : Reg)
  /-- DIVU reg1,reg2,reg3 (R524). -/
  | divu (reg1 reg2 reg3 : Reg)
  /-- DIVQ reg1,reg2,reg3 (R525). -/
  | divq (reg1 reg2 reg3 : Reg)
  /-- DIVQU reg1,reg2,reg3 (R526). -/
  | divqu (reg1 reg2 reg3 : Reg)
  /-- CMOV cccc,imm5,reg2,reg3 (R483). -/
  | cmovImm5 (cond : BitVec 4) (imm5 : BitVec 5) (reg2 reg3 : Reg)
  /-- CMOV cccc,reg1,reg2,reg3 (R482). -/
  | cmov (cond : BitVec 4) (reg1 reg2 reg3 : Reg)
  /-- BSW reg2,reg3 (R481). -/
  | bsw (reg2 reg3 : Reg)
  /-- BSH reg2,reg3 (R480). -/
  | bsh (reg2 reg3 : Reg)
  /-- HSW reg2,reg3 (R500). -/
  | hsw (reg2 reg3 : Reg)
  /-- HSH reg2,reg3 (R499). -/
  | hsh (reg2 reg3 : Reg)
  /-- SCH0R reg2,reg3 (R511). -/
  | sch0r (reg2 reg3 : Reg)
  /-- SCH1R reg2,reg3 (R513). -/
  | sch1r (reg2 reg3 : Reg)
  /-- SCH0L reg2,reg3 (R510). -/
  | sch0l (reg2 reg3 : Reg)
  /-- SCH1L reg2,reg3 (R512). -/
  | sch1l (reg2 reg3 : Reg)
  /-- SBF cccc,reg1,reg2,reg3 (R403). -/
  | sbf (cond : BitVec 4) (reg1 reg2 reg3 : Reg)
  /-- SATSUB reg1,reg2,reg3 (R444). -/
  | satsub3 (reg1 reg2 reg3 : Reg)
  /-- ADF cccc,reg1,reg2,reg3 (R393). -/
  | adf (cond : BitVec 4) (reg1 reg2 reg3 : Reg)
  /-- SATADD reg1,reg2,reg3 (R442). -/
  | satadd3 (reg1 reg2 reg3 : Reg)
  /-- MAC reg1,reg2,reg3,reg4 (R417). -/
  | mac (reg1 reg2 : Reg) (reg3 reg4 : Pair)
  /-- MACU reg1,reg2,reg3,reg4 (R418). -/
  | macu (reg1 reg2 : Reg) (reg3 reg4 : Pair)
  /-- ABSF.D reg2, reg3 (R670). -/
  | absfD (reg2 reg3 : Pair)
  /-- ABSF.S reg2, reg3 (R671). -/
  | absfS (reg2 reg3 : Reg)
  /-- ADDF.D reg1, reg2, reg3 (R672). -/
  | addfD (reg1 reg2 reg3 : Pair)
  /-- ADDF.S reg1, reg2, reg3 (R673). -/
  | addfS (reg1 reg2 reg3 : Reg)
  /-- CEILF.DL reg2, reg3 (R710). -/
  | ceilfDl (reg2 reg3 : Pair)
  /-- CEILF.DUL reg2, reg3 (R711). -/
  | ceilfDul (reg2 reg3 : Pair)
  /-- CEILF.DUW reg2, reg3 (R712). -/
  | ceilfDuw (reg2 : Pair) (reg3 : Reg)
  /-- CEILF.DW reg2, reg3 (R713). -/
  | ceilfDw (reg2 : Pair) (reg3 : Reg)
  /-- CEILF.SL reg2, reg3 (R714). -/
  | ceilfSl (reg2 : Reg) (reg3 : Pair)
  /-- CEILF.SUL reg2, reg3 (R715). -/
  | ceilfSul (reg2 : Reg) (reg3 : Pair)
  /-- CEILF.SUW reg2, reg3 (R716). -/
  | ceilfSuw (reg2 reg3 : Reg)
  /-- CEILF.SW reg2, reg3 (R717). -/
  | ceilfSw (reg2 reg3 : Reg)
  /-- CMOVF.D fcbit, reg1, reg2, reg3 (R775). -/
  | cmovfD (fcbit : BitVec 3) (reg1 reg2 reg3 : Pair)
  /-- CMOVF.S fcbit, reg1, reg2, reg3 (R776). -/
  | cmovfS (fcbit : BitVec 3) (reg1 reg2 reg3 : Reg)
  /-- CMPF.D fcond, reg2, reg1, fcbit (R771). -/
  | cmpfD (fcond : BitVec 4) (reg2 reg1 : Pair) (fcbit : BitVec 3)
  /-- CMPF.S fcond, reg2, reg1, fcbit (R772). -/
  | cmpfS (fcond : BitVec 4) (reg2 reg1 : Reg) (fcbit : BitVec 3)
  /-- CVTF.DL reg2, reg3 (R740). -/
  | cvtfDl (reg2 reg3 : Pair)
  /-- CVTF.DS reg2, reg3 (R741). -/
  | cvtfDs (reg2 : Pair) (reg3 : Reg)
  /-- CVTF.DUL reg2, reg3 (R742). -/
  | cvtfDul (reg2 reg3 : Pair)
  /-- CVTF.DUW reg2, reg3 (R743). -/
  | cvtfDuw (reg2 : Pair) (reg3 : Reg)
  /-- CVTF.DW reg2, reg3 (R744). -/
  | cvtfDw (reg2 : Pair) (reg3 : Reg)
  /-- CVTF.LD reg2, reg3 (R745). -/
  | cvtfLd (reg2 reg3 : Pair)
  /-- CVTF.LS reg2, reg3 (R746). -/
  | cvtfLs (reg2 : Pair) (reg3 : Reg)
  /-- CVTF.SD reg2, reg3 (R747). -/
  | cvtfSd (reg2 : Reg) (reg3 : Pair)
  /-- CVTF.SL reg2, reg3 (R748). -/
  | cvtfSl (reg2 : Reg) (reg3 : Pair)
  /-- CVTF.SUL reg2, reg3 (R749). -/
  | cvtfSul (reg2 : Reg) (reg3 : Pair)
  /-- CVTF.SUW reg2, reg3 (R750). -/
  | cvtfSuw (reg2 reg3 : Reg)
  /-- CVTF.SW reg2, reg3 (R751). -/
  | cvtfSw (reg2 reg3 : Reg)
  /-- CVTF.ULD reg2, reg3 (R752). -/
  | cvtfUld (reg2 reg3 : Pair)
  /-- CVTF.ULS reg2, reg3 (R753). -/
  | cvtfUls (reg2 : Pair) (reg3 : Reg)
  /-- CVTF.UWD reg2, reg3 (R754). -/
  | cvtfUwd (reg2 : Reg) (reg3 : Pair)
  /-- CVTF.UWS reg2, reg3 (R755). -/
  | cvtfUws (reg2 reg3 : Reg)
  /-- CVTF.WD reg2, reg3 (R756). -/
  | cvtfWd (reg2 : Reg) (reg3 : Pair)
  /-- CVTF.WS reg2, reg3 (R757). -/
  | cvtfWs (reg2 reg3 : Reg)
  /-- DIVF.D reg1, reg2, reg3 (R674). -/
  | divfD (reg1 reg2 reg3 : Pair)
  /-- DIVF.S reg1, reg2, reg3 (R675). -/
  | divfS (reg1 reg2 reg3 : Reg)
  /-- FLOORF.DL reg2, reg3 (R720). -/
  | floorfDl (reg2 reg3 : Pair)
  /-- FLOORF.DUL reg2, reg3 (R721). -/
  | floorfDul (reg2 reg3 : Pair)
  /-- FLOORF.DUW reg2, reg3 (R722). -/
  | floorfDuw (reg2 : Pair) (reg3 : Reg)
  /-- FLOORF.DW reg2, reg3 (R723). -/
  | floorfDw (reg2 : Pair) (reg3 : Reg)
  /-- FLOORF.SL reg2, reg3 (R724). -/
  | floorfSl (reg2 : Reg) (reg3 : Pair)
  /-- FLOORF.SUL reg2, reg3 (R725). -/
  | floorfSul (reg2 : Reg) (reg3 : Pair)
  /-- FLOORF.SUW reg2, reg3 (R726). -/
  | floorfSuw (reg2 reg3 : Reg)
  /-- FLOORF.SW reg2, reg3 (R727). -/
  | floorfSw (reg2 reg3 : Reg)
  /-- MADDF.S reg1, reg2, reg3, reg4 (R676). -/
  | maddfS (reg1 reg2 reg3 reg4 : Reg)
  /-- MAXF.D reg1, reg2, reg3 (R677). -/
  | maxfD (reg1 reg2 reg3 : Pair)
  /-- MAXF.S reg1, reg2, reg3 (R678). -/
  | maxfS (reg1 reg2 reg3 : Reg)
  /-- MINF.D reg1, reg2, reg3 (R679). -/
  | minfD (reg1 reg2 reg3 : Pair)
  /-- MINF.S reg1, reg2, reg3 (R680). -/
  | minfS (reg1 reg2 reg3 : Reg)
  /-- MSUBF.S reg1, reg2, reg3, reg4 (R681). -/
  | msubfS (reg1 reg2 reg3 reg4 : Reg)
  /-- MULF.D reg1, reg2, reg3 (R682). -/
  | mulfD (reg1 reg2 reg3 : Pair)
  /-- MULF.S reg1, reg2, reg3 (R683). -/
  | mulfS (reg1 reg2 reg3 : Reg)
  /-- NEGF.D reg2, reg3 (R684). -/
  | negfD (reg2 reg3 : Pair)
  /-- NEGF.S reg2, reg3 (R685). -/
  | negfS (reg2 reg3 : Reg)
  /-- NMADDF.S reg1, reg2, reg3, reg4 (R686). -/
  | nmaddfS (reg1 reg2 reg3 reg4 : Reg)
  /-- NMSUBF.S reg1, reg2, reg3, reg4 (R687). -/
  | nmsubfS (reg1 reg2 reg3 reg4 : Reg)
  /-- RECIPF.D reg2, reg3 (R688). -/
  | recipfD (reg2 reg3 : Pair)
  /-- RECIPF.S reg2, reg3 (R689). -/
  | recipfS (reg2 reg3 : Reg)
  /-- RSQRTF.D reg2, reg3 (R690). -/
  | rsqrtfD (reg2 reg3 : Pair)
  /-- RSQRTF.S reg2, reg3 (R691). -/
  | rsqrtfS (reg2 reg3 : Reg)
  /-- SQRTF.D reg2, reg3 (R692). -/
  | sqrtfD (reg2 reg3 : Pair)
  /-- SQRTF.S reg2, reg3 (R693). -/
  | sqrtfS (reg2 reg3 : Reg)
  /-- SUBF.D reg1, reg2, reg3 (R694). -/
  | subfD (reg1 reg2 reg3 : Pair)
  /-- SUBF.S reg1, reg2, reg3 (R695). -/
  | subfS (reg1 reg2 reg3 : Reg)
  /-- TRFSR fcbit (R778). -/
  | trfsr (fcbit : BitVec 3)
  /-- TRNCF.DL reg2, reg3 (R730). -/
  | trncfDl (reg2 reg3 : Pair)
  /-- TRNCF.DUL reg2, reg3 (R731). -/
  | trncfDul (reg2 reg3 : Pair)
  /-- TRNCF.DUW reg2, reg3 (R732). -/
  | trncfDuw (reg2 : Pair) (reg3 : Reg)
  /-- TRNCF.DW reg2, reg3 (R733). -/
  | trncfDw (reg2 : Pair) (reg3 : Reg)
  /-- TRNCF.SL reg2, reg3 (R734). -/
  | trncfSl (reg2 : Reg) (reg3 : Pair)
  /-- TRNCF.SUL reg2, reg3 (R735). -/
  | trncfSul (reg2 : Reg) (reg3 : Pair)
  /-- TRNCF.SUW reg2, reg3 (R736). -/
  | trncfSuw (reg2 reg3 : Reg)
  /-- TRNCF.SW reg2, reg3 (R737). -/
  | trncfSw (reg2 reg3 : Reg)
  deriving DecidableEq, Repr

end Sys2Proof
end

