-- ==== Sys2Proof/WellFormed.lean ====
section
/-! DEFINITION. The side conditions of the opcode table (R288): what an operand must not be because the encoding with
that value is another instruction or a reserved opcode (R296). Every other instruction is well formed with any operands. -/
namespace Sys2Proof

/-- The operands of the instruction meet the side condition of its row. -/
def Instr.wellFormed : Instr → Bool
  | .nop => true
  | .synce => true
  | .syncm => true
  | .syncp => true
  | .mov _ reg2 => reg2 != 0
  | .not _ _ => true
  | .rie => true
  | .switch reg1 => reg1 != 0
  | .fetrap vector4 => vector4 != 0
  | .divhReg reg1 reg2 => reg1 != 0 && reg2 != 0
  | .jmp _ => true
  | .sldBu _ reg2 => reg2 != 0
  | .sldHu _ reg2 => reg2 != 0
  | .zxb _ => true
  | .sxb _ => true
  | .zxh _ => true
  | .sxh _ => true
  | .satsubr _ reg2 => reg2 != 0
  | .satsub _ reg2 => reg2 != 0
  | .satadd _ reg2 => reg2 != 0
  | .mulh _ reg2 => reg2 != 0
  | .or _ _ => true
  | .xor _ _ => true
  | .and _ _ => true
  | .tst _ _ => true
  | .subr _ _ => true
  | .sub _ _ => true
  | .add _ _ => true
  | .cmp _ _ => true
  | .movImm5 _ reg2 => reg2 != 0
  | .sataddImm5 _ reg2 => reg2 != 0
  | .callt _ => true
  | .addImm5 _ _ => true
  | .cmpImm5 _ _ => true
  | .shrImm5 _ _ => true
  | .sarImm5 _ _ => true
  | .shlImm5 _ _ => true
  | .mulhImm5 _ reg2 => reg2 != 0
  | .sldB _ _ => true
  | .sstB _ _ => true
  | .sldH _ _ => true
  | .sstH _ _ => true
  | .sldW _ _ => true
  | .sstW _ _ => true
  | .bcond _ _ => true
  | .jr32 _ => true
  | .jarl32 _ reg1 => reg1 != 0
  | .addi _ _ _ => true
  | .movImm32 _ _ => true
  | .movea _ _ reg2 => reg2 != 0
  | .movhi _ _ reg2 => reg2 != 0
  | .satsubi _ _ reg2 => reg2 != 0
  | .dispose _ _ => true
  | .disposeJmp _ _ reg1 => reg1 != 0
  | .ori _ _ _ => true
  | .xori _ _ _ => true
  | .andi _ _ _ => true
  | .mulhi _ _ reg2 => reg2 != 0
  | .jmp32 _ _ => true
  | .ldB _ _ _ => true
  | .ldH _ _ _ => true
  | .ldW _ _ _ => true
  | .stB _ _ _ => true
  | .stH _ _ _ => true
  | .stW _ _ _ => true
  | .prepare _ _ => true
  | .prepareSp _ _ => true
  | .prepareImm16 _ _ _ => true
  | .prepareImm16Shl _ _ _ => true
  | .prepareImm32 _ _ _ => true
  | .jr22 _ => true
  | .jarl22 _ reg2 => reg2 != 0
  | .ldBu _ _ reg2 => reg2 != 0
  | .ldB23 _ _ _ => true
  | .ldH23 _ _ _ => true
  | .ldW23 _ _ _ => true
  | .stB23 _ _ _ => true
  | .stW23 _ _ _ => true
  | .ldBu23 _ _ _ => true
  | .ldHu23 _ _ _ => true
  | .stH23 _ _ _ => true
  | .set1 _ _ _ => true
  | .not1 _ _ _ => true
  | .clr1 _ _ _ => true
  | .tst1 _ _ _ => true
  | .ldHu _ _ reg2 => reg2 != 0
  | .setf _ _ => true
  | .rieImm _ _ => true
  | .ldsr _ _ => true
  | .stsr _ _ => true
  | .shr _ _ => true
  | .shr3 _ _ _ => true
  | .sar _ _ => true
  | .sar3 _ _ _ => true
  | .shl _ _ => true
  | .shl3 _ _ _ => true
  | .set1Reg _ _ => true
  | .not1Reg _ _ => true
  | .clr1Reg _ _ => true
  | .tst1Reg _ _ => true
  | .caxi _ _ _ => true
  | .trap _ => true
  | .halt => true
  | .reti => true
  | .ctret => true
  | .eiret => true
  | .feret => true
  | .di => true
  | .ei => true
  | .syscall _ => true
  | .sasf _ _ => true
  | .mul _ _ _ => true
  | .mulu _ _ _ => true
  | .mulImm9 _ _ _ => true
  | .muluImm9 _ _ _ => true
  | .divh _ _ _ => true
  | .divhu _ _ _ => true
  | .div _ _ _ => true
  | .divu _ _ _ => true
  | .divq _ _ _ => true
  | .divqu _ _ _ => true
  | .cmovImm5 _ _ _ _ => true
  | .cmov _ _ _ _ => true
  | .bsw _ _ => true
  | .bsh _ _ => true
  | .hsw _ _ => true
  | .hsh _ _ => true
  | .sch0r _ _ => true
  | .sch1r _ _ => true
  | .sch0l _ _ => true
  | .sch1l _ _ => true
  | .sbf cond _ _ _ => cond != 0b1101
  | .satsub3 _ _ _ => true
  | .adf cond _ _ _ => cond != 0b1101
  | .satadd3 _ _ _ => true
  | .mac _ _ _ _ => true
  | .macu _ _ _ _ => true
  | .absfD _ _ => true
  | .absfS _ _ => true
  | .addfD _ _ _ => true
  | .addfS _ _ _ => true
  | .ceilfDl _ _ => true
  | .ceilfDul _ _ => true
  | .ceilfDuw _ _ => true
  | .ceilfDw _ _ => true
  | .ceilfSl _ _ => true
  | .ceilfSul _ _ => true
  | .ceilfSuw _ _ => true
  | .ceilfSw _ _ => true
  | .cmovfD _ _ _ reg3 => reg3 != 0
  | .cmovfS _ _ _ reg3 => reg3 != 0
  | .cmpfD _ _ _ _ => true
  | .cmpfS _ _ _ _ => true
  | .cvtfDl _ _ => true
  | .cvtfDs _ _ => true
  | .cvtfDul _ _ => true
  | .cvtfDuw _ _ => true
  | .cvtfDw _ _ => true
  | .cvtfLd _ _ => true
  | .cvtfLs _ _ => true
  | .cvtfSd _ _ => true
  | .cvtfSl _ _ => true
  | .cvtfSul _ _ => true
  | .cvtfSuw _ _ => true
  | .cvtfSw _ _ => true
  | .cvtfUld _ _ => true
  | .cvtfUls _ _ => true
  | .cvtfUwd _ _ => true
  | .cvtfUws _ _ => true
  | .cvtfWd _ _ => true
  | .cvtfWs _ _ => true
  | .divfD _ _ _ => true
  | .divfS _ _ _ => true
  | .floorfDl _ _ => true
  | .floorfDul _ _ => true
  | .floorfDuw _ _ => true
  | .floorfDw _ _ => true
  | .floorfSl _ _ => true
  | .floorfSul _ _ => true
  | .floorfSuw _ _ => true
  | .floorfSw _ _ => true
  | .maddfS _ _ _ _ => true
  | .maxfD _ _ _ => true
  | .maxfS _ _ _ => true
  | .minfD _ _ _ => true
  | .minfS _ _ _ => true
  | .msubfS _ _ _ _ => true
  | .mulfD _ _ _ => true
  | .mulfS _ _ _ => true
  | .negfD _ _ => true
  | .negfS _ _ => true
  | .nmaddfS _ _ _ _ => true
  | .nmsubfS _ _ _ _ => true
  | .recipfD _ _ => true
  | .recipfS _ _ => true
  | .rsqrtfD _ _ => true
  | .rsqrtfS _ _ => true
  | .sqrtfD _ _ => true
  | .sqrtfS _ _ => true
  | .subfD _ _ _ => true
  | .subfS _ _ _ => true
  | .trfsr _ => true
  | .trncfDl _ _ => true
  | .trncfDul _ _ => true
  | .trncfDuw _ _ => true
  | .trncfDw _ _ => true
  | .trncfSl _ _ => true
  | .trncfSul _ _ => true
  | .trncfSuw _ _ => true
  | .trncfSw _ _ => true

end Sys2Proof
end

