-- ==== Sys2Proof/Decode.lean ====
section
/-! DEFINITION. Decoding and encoding (spec/30_encoding.md). Every halfword is cut into a 5, a 6 and a 5 bit field, or
into a 15 bit field and bit 0; all formats of R272 to R286 are read from these. -/
namespace Sys2Proof

/-! ### Fields of a halfword -/

/-- Bits 15 to 11. -/
def hi5 (h : Half) : BitVec 5 := h.extractLsb' 11 5
/-- Bits 10 to 5. -/
def mid6 (h : Half) : BitVec 6 := h.extractLsb' 5 6
/-- Bits 4 to 0. -/
def lo5 (h : Half) : BitVec 5 := h.extractLsb' 0 5
/-- Bits 15 to 1. -/
def hi15 (h : Half) : BitVec 15 := h.extractLsb' 1 15
/-- Bit 0. -/
def lsb1 (h : Half) : BitVec 1 := h.extractLsb' 0 1
/-- The halfword of a 5, a 6 and a 5 bit field. -/
def hw (a : BitVec 5) (b : BitVec 6) (c : BitVec 5) : Half := a ++ b ++ c
/-- The halfword of bits 15 to 1 and bit 0. -/
def hwD (d : BitVec 15) (b : BitVec 1) : Half := d ++ b

/-! ### Why a pattern is not an instruction -/

/-- The reason a byte sequence is not an instruction. -/
inductive Reject where
  /-- A reserved opcode of the CPU instruction area (R297). -/
  | reservedOpcode
  /-- An undefined opcode of the coprocessor area (R286). -/
  | reservedFpOpcode
  /-- There are fewer bytes than the instruction has (the decoder's own; fetching never gives it). -/
  | truncated
  deriving DecidableEq, Repr

/-- The reserved opcode of the CPU area. -/
abbrev reservedCpu : Except Reject Instr := .error .reservedOpcode
/-- The undefined opcode of the coprocessor area. -/
abbrev reservedFp : Except Reject Instr := .error .reservedFpOpcode

/-- The instruction length in bytes, from the first two halfwords (R287). -/
def instrLength (h1 h2 : Half) : Nat :=
  let op := mid6 h1
  let r := hi5 h1
  if op ≤ 0b101111#6 then
    if op = 0b010111#6 ∧ r = 0 then 6 else 2
  else if (op = 0b110001#6 ∨ op = 0b110111#6) ∧ r = 0 then 6
  else if (op = 0b111100#6 ∨ op = 0b111101#6) ∧ r = 0 ∧ lsb1 h2 = 1 then
    if (lo5 h2).extractLsb' 0 4 = 0b0001#4 then 4
    else if (lo5 h2).extractLsb' 0 3 = 0b011#3 then
      match (lo5 h2).extractLsb' 3 2 with
      | 0b00#2 => 4
      | 0b01#2 => 6
      | 0b10#2 => 6
      | _ => 8
    else 6
  else 4

/-- Whether the length, and so the instruction, depends on the second halfword (R287). -/
def needsSecond (h1 : Half) : Bool :=
  0b110000#6 ≤ mid6 h1 || (mid6 h1 = 0b010111#6 && hi5 h1 = 0)

/-! ### Decoding -/

/-- A register field that must name the even register of a pair (R178, R295). -/
def evenPair (r : Reg) : Option Pair := if r.extractLsb' 0 1 = 0#1 then some (r.extractLsb' 1 4) else none

/-- Formats I, II and IV with op6 up to 010111, and the two 48-bit jumps among them (R300, R301). -/
def decodeShort (r : BitVec 5) (op : BitVec 6) (R : BitVec 5) (h2 h3 : Half) : Except Reject Instr :=
  match op with
  | 0b000000#6 =>
    if r ≠ 0 then .ok (.mov R r)
    else match R with
      | 0#5 => .ok .nop
      | 29#5 => .ok .synce
      | 30#5 => .ok .syncm
      | 31#5 => .ok .syncp
      | _ => reservedCpu
  | 0b000001#6 => .ok (.not R r)
  | 0b000010#6 =>
    if r = 0 then (if R = 0 then .ok .rie else .ok (.switch R))
    else if R = 0 then
      (if r.extractLsb' 4 1 = 0#1 then .ok (.fetrap (r.extractLsb' 0 4)) else reservedCpu)
    else .ok (.divhReg R r)
  | 0b000011#6 =>
    if r = 0 then .ok (.jmp R)
    else if R.extractLsb' 4 1 = 0#1 then .ok (.sldBu (R.extractLsb' 0 4) r)
    else .ok (.sldHu (R.extractLsb' 0 4) r)
  | 0b000100#6 => if r = 0 then .ok (.zxb R) else .ok (.satsubr R r)
  | 0b000101#6 => if r = 0 then .ok (.sxb R) else .ok (.satsub R r)
  | 0b000110#6 => if r = 0 then .ok (.zxh R) else .ok (.satadd R r)
  | 0b000111#6 => if r = 0 then .ok (.sxh R) else .ok (.mulh R r)
  | 0b001000#6 => .ok (.or R r)
  | 0b001001#6 => .ok (.xor R r)
  | 0b001010#6 => .ok (.and R r)
  | 0b001011#6 => .ok (.tst R r)
  | 0b001100#6 => .ok (.subr R r)
  | 0b001101#6 => .ok (.sub R r)
  | 0b001110#6 => .ok (.add R r)
  | 0b001111#6 => .ok (.cmp R r)
  | 0b010000#6 => if r = 0 then .ok (.callt (0#1 ++ R)) else .ok (.movImm5 R r)
  | 0b010001#6 => if r = 0 then .ok (.callt (1#1 ++ R)) else .ok (.sataddImm5 R r)
  | 0b010010#6 => .ok (.addImm5 R r)
  | 0b010011#6 => .ok (.cmpImm5 R r)
  | 0b010100#6 => .ok (.shrImm5 R r)
  | 0b010101#6 => .ok (.sarImm5 R r)
  | 0b010110#6 => .ok (.shlImm5 R r)
  | 0b010111#6 =>
    if r ≠ 0 then .ok (.mulhImm5 R r)
    else if lsb1 h2 = 1#1 then reservedCpu
    else if R = 0 then .ok (.jr32 (h3 ++ hi15 h2))
    else .ok (.jarl32 (h3 ++ hi15 h2) R)
  | _ => reservedCpu

/-- Formats III and IV that hold a 4-bit opcode in bits 10 to 7 (R274, R275); `d` is bits 6 and 5. -/
def decodeLoadShort (op4 : BitVec 4) (r : BitVec 5) (d : BitVec 2) (R : BitVec 5) : Except Reject Instr :=
  match op4 with
  | 0b0110#4 => .ok (.sldB (d ++ R) r)
  | 0b0111#4 => .ok (.sstB r (d ++ R))
  | 0b1000#4 => .ok (.sldH (d ++ R) r)
  | 0b1001#4 => .ok (.sstH r (d ++ R))
  | 0b1010#4 =>
    if R.extractLsb' 0 1 = 0#1 then .ok (.sldW (d ++ R.extractLsb' 1 4) r)
    else .ok (.sstW r (d ++ R.extractLsb' 1 4))
  | _ => .ok (.bcond (R.extractLsb' 0 4) (r ++ d ++ R.extractLsb' 4 1))

/-- PREPARE and Format XIV: bits 10 to 6 = 11110, bits 15 to 11 = 0, bit 16 = 1 (R284, R285). `i` is bit 5. -/
def decodeFrame (i : BitVec 1) (R : BitVec 5) (h2 h3 h4 : Half) : Except Reject Instr :=
  let list := hi5 h2 ++ mid6 h2 ++ R.extractLsb' 0 1
  let imm := i ++ R.extractLsb' 1 4
  let w := hi5 h2
  let d := mid6 h2
  let byteDisp := h3 ++ d ++ (lo5 h2).extractLsb' 4 1
  let evenDisp := h3 ++ d
  match lo5 h2 with
  | 0b00001#5 => .ok (.prepare list imm)
  | 0b00011#5 => .ok (.prepareSp list imm)
  | 0b01011#5 => .ok (.prepareImm16 list imm h3)
  | 0b10011#5 => .ok (.prepareImm16Shl list imm h3)
  | 0b11011#5 => .ok (.prepareImm32 list imm (h4 ++ h3))
  | 0b00101#5 => if i = 0#1 then .ok (.ldB23 byteDisp R w) else .ok (.ldBu23 byteDisp R w)
  | 0b10101#5 => if i = 0#1 then .ok (.ldB23 byteDisp R w) else .ok (.ldBu23 byteDisp R w)
  | 0b00111#5 => if i = 0#1 then .ok (.ldH23 evenDisp R w) else .ok (.ldHu23 evenDisp R w)
  | 0b01001#5 => if i = 0#1 then .ok (.ldW23 evenDisp R w) else reservedCpu
  | 0b01101#5 => if i = 0#1 then .ok (.stB23 w byteDisp R) else .ok (.stH23 w evenDisp R)
  | 0b11101#5 => if i = 0#1 then .ok (.stB23 w byteDisp R) else reservedCpu
  | 0b01111#5 => if i = 0#1 then .ok (.stW23 w evenDisp R) else reservedCpu
  | _ => reservedCpu

/-- The extended formats IX to XII: op6 = 111111, bit 16 = 0, bit 26 = 0 (R302). `w`, `sub` and `low` are the fields of
the second halfword. -/
def decodeExtended (r R w : BitVec 5) (sub : BitVec 6) (low : BitVec 5) : Except Reject Instr :=
  match sub with
  | 0b000000#6 =>
    if w = 0 ∧ low = 0 then
      (if R.extractLsb' 4 1 = 0#1 then .ok (.setf (R.extractLsb' 0 4) r) else .ok (.rieImm r (R.extractLsb' 0 4)))
    else reservedCpu
  | 0b000001#6 => if w = 0 ∧ low = 0 then .ok (.ldsr R r) else reservedCpu
  | 0b000010#6 => if w = 0 ∧ low = 0 then .ok (.stsr R r) else reservedCpu
  | 0b000100#6 => decodeShift w low (.shr R r) (.shr3 R r w)
  | 0b000101#6 => decodeShift w low (.sar R r) (.sar3 R r w)
  | 0b000110#6 => decodeShift w low (.shl R r) (.shl3 R r w)
  | 0b000111#6 =>
    match low with
    | 0b00000#5 => if w = 0 then .ok (.set1Reg r R) else reservedCpu
    | 0b00010#5 => if w = 0 then .ok (.not1Reg r R) else reservedCpu
    | 0b00100#5 => if w = 0 then .ok (.clr1Reg r R) else reservedCpu
    | 0b00110#5 => if w = 0 then .ok (.tst1Reg r R) else reservedCpu
    | 0b01110#5 => .ok (.caxi R r w)
    | _ => reservedCpu
  | 0b001000#6 => if w = 0 ∧ low = 0 ∧ r = 0 then .ok (.trap R) else reservedCpu
  | 0b001001#6 => if w = 0 ∧ low = 0 ∧ r = 0 ∧ R = 0 then .ok .halt else reservedCpu
  | 0b001010#6 =>
    if w = 0 ∧ r = 0 ∧ R = 0 then
      match low with
      | 0b00000#5 => .ok .reti
      | 0b00100#5 => .ok .ctret
      | 0b01000#5 => .ok .eiret
      | 0b01010#5 => .ok .feret
      | _ => reservedCpu
    else reservedCpu
  | 0b001011#6 =>
    if low ≠ 0 then reservedCpu
    else match r with
      | 0b00000#5 => if w = 0 ∧ R = 0 then .ok .di else reservedCpu
      | 0b10000#5 => if w = 0 ∧ R = 0 then .ok .ei else reservedCpu
      | 0b11010#5 => if w.extractLsb' 3 2 = 0#2 then .ok (.syscall (w.extractLsb' 0 3 ++ R)) else reservedCpu
      | _ => reservedCpu
  | 0b010000#6 =>
    if w = 0 ∧ low = 0 ∧ R.extractLsb' 4 1 = 0#1 then .ok (.sasf (R.extractLsb' 0 4) r) else reservedCpu
  | 0b010001#6 => decodePlain low (.mul R r w) (.mulu R r w)
  | 0b010010#6 => decodeMulImm 0#1 low R r w
  | 0b010011#6 => decodeMulImm 1#1 low R r w
  | 0b010100#6 => decodePlain low (.divh R r w) (.divhu R r w)
  | 0b010110#6 => decodePlain low (.div R r w) (.divu R r w)
  | 0b010111#6 =>
    match low with
    | 0b11100#5 => .ok (.divq R r w)
    | 0b11110#5 => .ok (.divqu R r w)
    | _ => reservedCpu
  | 0b011000#6 => .ok (.cmovImm5 (low.extractLsb' 1 4) R r w)
  | 0b011001#6 => .ok (.cmov (low.extractLsb' 1 4) R r w)
  | 0b011010#6 =>
    if R ≠ 0 then reservedCpu
    else match low with
      | 0b00000#5 => .ok (.bsw r w)
      | 0b00010#5 => .ok (.bsh r w)
      | 0b00100#5 => .ok (.hsw r w)
      | 0b00110#5 => .ok (.hsh r w)
      | _ => reservedCpu
  | 0b011011#6 =>
    if R ≠ 0 then reservedCpu
    else match low with
      | 0b00000#5 => .ok (.sch0r r w)
      | 0b00010#5 => .ok (.sch1r r w)
      | 0b00100#5 => .ok (.sch0l r w)
      | 0b00110#5 => .ok (.sch1l r w)
      | _ => reservedCpu
  | 0b011100#6 =>
    if low.extractLsb' 1 4 = 0b1101#4 then .ok (.satsub3 R r w) else .ok (.sbf (low.extractLsb' 1 4) R r w)
  | 0b011101#6 =>
    if low.extractLsb' 1 4 = 0b1101#4 then .ok (.satadd3 R r w) else .ok (.adf (low.extractLsb' 1 4) R r w)
  | 0b011110#6 =>
    if w.extractLsb' 0 1 = 0#1 then .ok (.mac R r (w.extractLsb' 1 4) (low.extractLsb' 1 4)) else reservedCpu
  | 0b011111#6 =>
    if w.extractLsb' 0 1 = 0#1 then .ok (.macu R r (w.extractLsb' 1 4) (low.extractLsb' 1 4)) else reservedCpu
  | _ => reservedCpu
where
  /-- SHR, SAR and SHL: the two-register form has bits 31 to 27 zero, the three-register form holds reg3 there. -/
  decodeShift (w low : BitVec 5) (two three : Instr) : Except Reject Instr :=
    match low with
    | 0b00000#5 => if w = 0 then .ok two else reservedCpu
    | 0b00010#5 => .ok three
    | _ => reservedCpu
  /-- A signed and an unsigned form told apart by bit 17. -/
  decodePlain (low : BitVec 5) (signed unsigned : Instr) : Except Reject Instr :=
    match low with
    | 0b00000#5 => .ok signed
    | 0b00010#5 => .ok unsigned
    | _ => reservedCpu
  /-- MUL and MULU with imm9: bits 21 to 18 are imm9[8:5], bits 17 and 16 tell the two apart (R283). -/
  decodeMulImm (top : BitVec 1) (low R r w : BitVec 5) : Except Reject Instr :=
    match low.extractLsb' 0 2 with
    | 0b00#2 => .ok (.mulImm9 (top ++ low.extractLsb' 2 3 ++ R) r w)
    | 0b10#2 => .ok (.muluImm9 (top ++ low.extractLsb' 2 3 ++ R) r w)
    | _ => reservedCpu


/-! ### The coprocessor area: op6 = 111111, bit 16 = 0, bit 26 = 1 (R303, R651) -/

/-- Reads the fields of a floating-point instruction as the registers or pairs it names. -/
def fpRR (r w : Reg) (f : Reg → Reg → Instr) : Except Reject Instr := .ok (f r w)
@[inherit_doc fpRR] def fpRP (r w : Reg) (f : Reg → Pair → Instr) : Except Reject Instr :=
  match evenPair w with
  | some w => .ok (f r w)
  | none => reservedFp
@[inherit_doc fpRR] def fpPR (r w : Reg) (f : Pair → Reg → Instr) : Except Reject Instr :=
  match evenPair r with
  | some r => .ok (f r w)
  | none => reservedFp
@[inherit_doc fpRR] def fpPP (r w : Reg) (f : Pair → Pair → Instr) : Except Reject Instr :=
  match evenPair r, evenPair w with
  | some r, some w => .ok (f r w)
  | _, _ => reservedFp
@[inherit_doc fpRR] def fpPPP (R r w : Reg) (f : Pair → Pair → Pair → Instr) : Except Reject Instr :=
  match evenPair R, evenPair r, evenPair w with
  | some R, some r, some w => .ok (f R r w)
  | _, _, _ => reservedFp

/-- The floating-point opcodes (Table B-4, R651). `w`, `sub` and `low` are the fields of the second halfword. -/
def decodeFp (r R w : BitVec 5) (sub : BitVec 6) (low : BitVec 5) : Except Reject Instr :=
  match sub with
  | 0b100000#6 =>
    -- CMOVF and TRFSR: bits 19 to 17 are fcbit, bit 20 tells single from double
    if low.extractLsb' 4 1 = 0#1 then
      (if w = 0 then (if r = 0 ∧ R = 0 then .ok (.trfsr (low.extractLsb' 1 3)) else reservedFp)
       else .ok (.cmovfS (low.extractLsb' 1 3) R r w))
    else if w = 0 then reservedFp
    else fpPPP R r w (.cmovfD (low.extractLsb' 1 3))
  | 0b100001#6 =>
    -- CMPF: bits 30 to 27 are fcond, bits 19 to 17 are fcbit, bit 20 tells single from double
    if w.extractLsb' 4 1 ≠ 0#1 then reservedFp
    else if low.extractLsb' 4 1 = 0#1 then .ok (.cmpfS (w.extractLsb' 0 4) r R (low.extractLsb' 1 3))
    else fpPP r R (fun r R => .cmpfD (w.extractLsb' 0 4) r R (low.extractLsb' 1 3))
  | 0b100010#6 =>
    match low with
    | 0b00000#5 =>
      match R with
      | 0b00001#5 => fpRR r w .trncfSw
      | 0b00010#5 => fpRR r w .ceilfSw
      | 0b00011#5 => fpRR r w .floorfSw
      | 0b00100#5 => fpRR r w .cvtfSw
      | 0b10001#5 => fpRR r w .trncfSuw
      | 0b10010#5 => fpRR r w .ceilfSuw
      | 0b10011#5 => fpRR r w .floorfSuw
      | 0b10100#5 => fpRR r w .cvtfSuw
      | _ => reservedFp
    | 0b00010#5 =>
      match R with
      | 0b00000#5 => fpRR r w .cvtfWs
      | 0b00001#5 => fpPR r w .cvtfLs
      | 0b10000#5 => fpRR r w .cvtfUws
      | 0b10001#5 => fpPR r w .cvtfUls
      | _ => reservedFp
    | 0b00100#5 =>
      match R with
      | 0b00001#5 => fpRP r w .trncfSl
      | 0b00010#5 => fpRP r w .ceilfSl
      | 0b00011#5 => fpRP r w .floorfSl
      | 0b00100#5 => fpRP r w .cvtfSl
      | 0b10001#5 => fpRP r w .trncfSul
      | 0b10010#5 => fpRP r w .ceilfSul
      | 0b10011#5 => fpRP r w .floorfSul
      | 0b10100#5 => fpRP r w .cvtfSul
      | _ => reservedFp
    | 0b01000#5 =>
      match R with
      | 0b00000#5 => fpRR r w .absfS
      | 0b00001#5 => fpRR r w .negfS
      | _ => reservedFp
    | 0b01110#5 =>
      match R with
      | 0b00000#5 => fpRR r w .sqrtfS
      | 0b00001#5 => fpRR r w .recipfS
      | 0b00010#5 => fpRR r w .rsqrtfS
      | _ => reservedFp
    | 0b10000#5 =>
      match R with
      | 0b00001#5 => fpPR r w .trncfDw
      | 0b00010#5 => fpPR r w .ceilfDw
      | 0b00011#5 => fpPR r w .floorfDw
      | 0b00100#5 => fpPR r w .cvtfDw
      | 0b10001#5 => fpPR r w .trncfDuw
      | 0b10010#5 => fpPR r w .ceilfDuw
      | 0b10011#5 => fpPR r w .floorfDuw
      | 0b10100#5 => fpPR r w .cvtfDuw
      | _ => reservedFp
    | 0b10010#5 =>
      match R with
      | 0b00000#5 => fpRP r w .cvtfWd
      | 0b00001#5 => fpPP r w .cvtfLd
      | 0b00010#5 => fpRP r w .cvtfSd
      | 0b00011#5 => fpPR r w .cvtfDs
      | 0b10000#5 => fpRP r w .cvtfUwd
      | 0b10001#5 => fpPP r w .cvtfUld
      | _ => reservedFp
    | 0b10100#5 =>
      match R with
      | 0b00001#5 => fpPP r w .trncfDl
      | 0b00010#5 => fpPP r w .ceilfDl
      | 0b00011#5 => fpPP r w .floorfDl
      | 0b00100#5 => fpPP r w .cvtfDl
      | 0b10001#5 => fpPP r w .trncfDul
      | 0b10010#5 => fpPP r w .ceilfDul
      | 0b10011#5 => fpPP r w .floorfDul
      | 0b10100#5 => fpPP r w .cvtfDul
      | _ => reservedFp
    | 0b11000#5 =>
      match R with
      | 0b00000#5 => fpPP r w .absfD
      | 0b00001#5 => fpPP r w .negfD
      | _ => reservedFp
    | 0b11110#5 =>
      match R with
      | 0b00000#5 => fpPP r w .sqrtfD
      | 0b00001#5 => fpPP r w .recipfD
      | 0b00010#5 => fpPP r w .rsqrtfD
      | _ => reservedFp
    | _ => reservedFp
  | 0b100011#6 =>
    match low with
    | 0b00000#5 => .ok (.addfS R r w)
    | 0b00010#5 => .ok (.subfS R r w)
    | 0b00100#5 => .ok (.mulfS R r w)
    | 0b01000#5 => .ok (.maxfS R r w)
    | 0b01010#5 => .ok (.minfS R r w)
    | 0b01110#5 => .ok (.divfS R r w)
    | 0b10000#5 => fpPPP R r w .addfD
    | 0b10010#5 => fpPPP R r w .subfD
    | 0b10100#5 => fpPPP R r w .mulfD
    | 0b11000#5 => fpPPP R r w .maxfD
    | 0b11010#5 => fpPPP R r w .minfD
    | 0b11110#5 => fpPPP R r w .divfD
    | _ => reservedFp
  -- the fused group 101W (R667): bit 23 is reg4[0], bits 22 and 21 select the operation, bits 20 to 17 are reg4[4:1];
  -- the table's operand_assembly says otherwise (log entry 31)
  | 0b101000#6 => .ok (.maddfS R r w (low.extractLsb' 1 4 ++ 0#1))
  | 0b101100#6 => .ok (.maddfS R r w (low.extractLsb' 1 4 ++ 1#1))
  | 0b101001#6 => .ok (.msubfS R r w (low.extractLsb' 1 4 ++ 0#1))
  | 0b101101#6 => .ok (.msubfS R r w (low.extractLsb' 1 4 ++ 1#1))
  | 0b101010#6 => .ok (.nmaddfS R r w (low.extractLsb' 1 4 ++ 0#1))
  | 0b101110#6 => .ok (.nmaddfS R r w (low.extractLsb' 1 4 ++ 1#1))
  | 0b101011#6 => .ok (.nmsubfS R r w (low.extractLsb' 1 4 ++ 0#1))
  | 0b101111#6 => .ok (.nmsubfS R r w (low.extractLsb' 1 4 ++ 1#1))
  | _ => reservedFp

/-- The 32-bit classes, op6 from 110000 (R301 to R303). Where op6 is 111111 and bit 16 is 1 the row of LD.HU decides (R301);
R295 and U23 have such words of the MAC and MACU slot match no row (DEDUCED, log entry 32). -/
def decodeLong (r : BitVec 5) (op : BitVec 6) (R : BitVec 5) (h2 h3 h4 : Half) : Except Reject Instr :=
  match op with
  | 0b110000#6 => .ok (.addi h2 R r)
  | 0b110001#6 => if r = 0 then .ok (.movImm32 (h3 ++ h2) R) else .ok (.movea h2 R r)
  | 0b110010#6 => if r = 0 then decodeDispose 0#1 R h2 else .ok (.movhi h2 R r)
  | 0b110011#6 => if r = 0 then decodeDispose 1#1 R h2 else .ok (.satsubi h2 R r)
  | 0b110100#6 => .ok (.ori h2 R r)
  | 0b110101#6 => .ok (.xori h2 R r)
  | 0b110110#6 => .ok (.andi h2 R r)
  | 0b110111#6 =>
    if r ≠ 0 then .ok (.mulhi h2 R r)
    else if lsb1 h2 = 1#1 then reservedCpu
    else .ok (.jmp32 (h3 ++ hi15 h2) R)
  | 0b111000#6 => .ok (.ldB h2 R r)
  | 0b111001#6 => if lsb1 h2 = 0#1 then .ok (.ldH (hi15 h2) R r) else .ok (.ldW (hi15 h2) R r)
  | 0b111010#6 => .ok (.stB r h2 R)
  | 0b111011#6 => if lsb1 h2 = 0#1 then .ok (.stH r (hi15 h2) R) else .ok (.stW r (hi15 h2) R)
  | 0b111100#6 => decodeJumpOrLoad r 0#1 R h2 h3 h4
  | 0b111101#6 => decodeJumpOrLoad r 1#1 R h2 h3 h4
  | 0b111110#6 =>
    match r.extractLsb' 3 2 with
    | 0b00#2 => .ok (.set1 (r.extractLsb' 0 3) h2 R)
    | 0b01#2 => .ok (.not1 (r.extractLsb' 0 3) h2 R)
    | 0b10#2 => .ok (.clr1 (r.extractLsb' 0 3) h2 R)
    | _ => .ok (.tst1 (r.extractLsb' 0 3) h2 R)
  | 0b111111#6 =>
    if lsb1 h2 = 1#1 then (if r = 0 then reservedCpu else .ok (.ldHu (hi15 h2) R r))
    else if (mid6 h2).extractLsb' 5 1 = 0#1 then decodeExtended r R (hi5 h2) (mid6 h2) (lo5 h2)
    else decodeFp r R (hi5 h2) (mid6 h2) (lo5 h2)
  | _ => reservedCpu
where
  /-- DISPOSE: bits 10 to 6 = 11001, bits 15 to 11 = 0; `i` is bit 5 (R284). -/
  decodeDispose (i : BitVec 1) (R : BitVec 5) (h2 : Half) : Except Reject Instr :=
    let list := hi5 h2 ++ mid6 h2 ++ R.extractLsb' 0 1
    let imm := i ++ R.extractLsb' 1 4
    if lo5 h2 = 0 then .ok (.dispose list imm) else .ok (.disposeJmp list imm (lo5 h2))
  /-- Bits 10 to 6 = 11110: JR and JARL with disp22, LD.BU, and with bits 15 to 11 = 0 and bit 16 = 1 the frame and
  long-displacement instructions; `i` is bit 5 (R276, R278). -/
  decodeJumpOrLoad (r : BitVec 5) (i : BitVec 1) (R : BitVec 5) (h2 h3 h4 : Half) : Except Reject Instr :=
    if lsb1 h2 = 0#1 then
      (if r = 0 then .ok (.jr22 (i ++ R ++ hi15 h2)) else .ok (.jarl22 (i ++ R ++ hi15 h2) r))
    else if r = 0 then decodeFrame i R h2 h3 h4
    else .ok (.ldBu (hi15 h2 ++ i) R r)

/-- The instruction that four halfwords begin with (R288). Halfwords beyond its length are not read. -/
def decodeHalves (h1 h2 h3 h4 : Half) : Except Reject Instr :=
  let op := mid6 h1
  if op < 0b011000#6 then decodeShort (hi5 h1) op (lo5 h1) h2 h3
  else if op < 0b110000#6 then decodeLoadShort (op.extractLsb' 2 4) (hi5 h1) (op.extractLsb' 0 2) (lo5 h1)
  else decodeLong (hi5 h1) op (lo5 h1) h2 h3 h4

/-- The halfword of two bytes, the first at the lower address (R225). -/
def halfOfBytes (lo hi : Byte) : Half := hi ++ lo

/-- The halfwords of a byte sequence; an odd last byte is dropped. -/
def halvesOfBytes : List Byte → List Half
  | lo :: hi :: rest => halfOfBytes lo hi :: halvesOfBytes rest
  | _ => []

/-- The instruction that a byte sequence begins with: total on any bytes, every rejection named. -/
def decode (bytes : List Byte) : Except Reject Instr :=
  match halvesOfBytes bytes with
  | [] => .error .truncated
  | h1 :: rest =>
    let hws := h1 :: rest
    if needsSecond h1 && rest.isEmpty then .error .truncated
    else if 2 * hws.length < instrLength h1 (rest.getD 0 0) then .error .truncated
    else decodeHalves h1 (rest.getD 0 0) (rest.getD 1 0) (rest.getD 2 0)

/-- The bytes of a word numbered as spec/opcode_table.json numbers it, the first `n` of them. -/
def tableBytes (w : Nat) : Nat → List Byte
  | 0 => []
  | n + 1 => BitVec.ofNat 8 w :: tableBytes (w / 256) n

/-- The instruction the decoder reads from an instruction whose first `nbits` bits are `w`, every bit above zero. The
longest instruction has eight bytes. -/
def decodeTableWord (nbits w : Nat) : Option Instr := (decode (tableBytes (w % 2 ^ nbits) 8)).toOption

/-! ### Encoding -/

/-- The register field that names the even register of a pair. -/
def pairField (p : Pair) : BitVec 5 := p ++ 0#1

/-- The first halfword of PREPARE and DISPOSE: `op` is bits 10 to 6, then imm5 and list12 bit 0 (R284). -/
def frameHalf (op : BitVec 5) (imm : BitVec 5) (list : BitVec 12) : Half :=
  hw 0 (op ++ imm.extractLsb' 4 1) (imm.extractLsb' 0 4 ++ list.extractLsb' 0 1)
/-- The second halfword of PREPARE and DISPOSE: list12 bits 31 to 21, then bits 20 to 16 (R284). -/
def listHalf (list : BitVec 12) (low : BitVec 5) : Half := hw (list.extractLsb' 7 5) (list.extractLsb' 1 6) low

/-- The halfwords of an instruction, the first at the lowest address (R270; the tables R300 to R303 and R651). -/
def encode : Instr → List Half
  | .nop => [hw 0 0 0]
  | .synce => [hw 0 0 0b11101]
  | .syncm => [hw 0 0 0b11110]
  | .syncp => [hw 0 0 0b11111]
  | .mov reg1 reg2 => [hw reg2 0 reg1]
  | .not reg1 reg2 => [hw reg2 0b000001 reg1]
  | .rie => [hw 0 0b000010 0]
  | .switch reg1 => [hw 0 0b000010 reg1]
  | .fetrap vector4 => [hw (0#1 ++ vector4) 0b000010 0]
  | .divhReg reg1 reg2 => [hw reg2 0b000010 reg1]
  | .jmp reg1 => [hw 0 0b000011 reg1]
  | .sldBu disp reg2 => [hw reg2 0b000011 (0#1 ++ disp)]
  | .sldHu disp reg2 => [hw reg2 0b000011 (1#1 ++ disp)]
  | .zxb reg1 => [hw 0 0b000100 reg1]
  | .sxb reg1 => [hw 0 0b000101 reg1]
  | .zxh reg1 => [hw 0 0b000110 reg1]
  | .sxh reg1 => [hw 0 0b000111 reg1]
  | .satsubr reg1 reg2 => [hw reg2 0b000100 reg1]
  | .satsub reg1 reg2 => [hw reg2 0b000101 reg1]
  | .satadd reg1 reg2 => [hw reg2 0b000110 reg1]
  | .mulh reg1 reg2 => [hw reg2 0b000111 reg1]
  | .or reg1 reg2 => [hw reg2 0b001000 reg1]
  | .xor reg1 reg2 => [hw reg2 0b001001 reg1]
  | .and reg1 reg2 => [hw reg2 0b001010 reg1]
  | .tst reg1 reg2 => [hw reg2 0b001011 reg1]
  | .subr reg1 reg2 => [hw reg2 0b001100 reg1]
  | .sub reg1 reg2 => [hw reg2 0b001101 reg1]
  | .add reg1 reg2 => [hw reg2 0b001110 reg1]
  | .cmp reg1 reg2 => [hw reg2 0b001111 reg1]
  | .movImm5 imm5 reg2 => [hw reg2 0b010000 imm5]
  | .sataddImm5 imm5 reg2 => [hw reg2 0b010001 imm5]
  | .callt imm6 => [hw 0 (0b01000#5 ++ imm6.extractLsb' 5 1) (imm6.extractLsb' 0 5)]
  | .addImm5 imm5 reg2 => [hw reg2 0b010010 imm5]
  | .cmpImm5 imm5 reg2 => [hw reg2 0b010011 imm5]
  | .shrImm5 imm5 reg2 => [hw reg2 0b010100 imm5]
  | .sarImm5 imm5 reg2 => [hw reg2 0b010101 imm5]
  | .shlImm5 imm5 reg2 => [hw reg2 0b010110 imm5]
  | .mulhImm5 imm5 reg2 => [hw reg2 0b010111 imm5]
  | .sldB disp reg2 => [hw reg2 (0b0110#4 ++ disp.extractLsb' 5 2) (disp.extractLsb' 0 5)]
  | .sstB reg2 disp => [hw reg2 (0b0111#4 ++ disp.extractLsb' 5 2) (disp.extractLsb' 0 5)]
  | .sldH disp reg2 => [hw reg2 (0b1000#4 ++ disp.extractLsb' 5 2) (disp.extractLsb' 0 5)]
  | .sstH reg2 disp => [hw reg2 (0b1001#4 ++ disp.extractLsb' 5 2) (disp.extractLsb' 0 5)]
  | .sldW disp reg2 => [hw reg2 (0b1010#4 ++ disp.extractLsb' 4 2) (disp.extractLsb' 0 4 ++ 0#1)]
  | .sstW reg2 disp => [hw reg2 (0b1010#4 ++ disp.extractLsb' 4 2) (disp.extractLsb' 0 4 ++ 1#1)]
  | .bcond cond disp => [hw (disp.extractLsb' 3 5) (0b1011#4 ++ disp.extractLsb' 1 2) (disp.extractLsb' 0 1 ++ cond)]
  | .jr32 disp => [hw 0 0b010111 0, hwD (disp.extractLsb' 0 15) 0, disp.extractLsb' 15 16]
  | .jarl32 disp reg1 => [hw 0 0b010111 reg1, hwD (disp.extractLsb' 0 15) 0, disp.extractLsb' 15 16]
  | .addi imm16 reg1 reg2 => [hw reg2 0b110000 reg1, imm16]
  | .movImm32 imm32 reg1 => [hw 0 0b110001 reg1, imm32.extractLsb' 0 16, imm32.extractLsb' 16 16]
  | .movea imm16 reg1 reg2 => [hw reg2 0b110001 reg1, imm16]
  | .movhi imm16 reg1 reg2 => [hw reg2 0b110010 reg1, imm16]
  | .satsubi imm16 reg1 reg2 => [hw reg2 0b110011 reg1, imm16]
  | .dispose list imm5 => [frameHalf 0b11001 imm5 list, listHalf list 0]
  | .disposeJmp list imm5 reg1 => [frameHalf 0b11001 imm5 list, listHalf list reg1]
  | .ori imm16 reg1 reg2 => [hw reg2 0b110100 reg1, imm16]
  | .xori imm16 reg1 reg2 => [hw reg2 0b110101 reg1, imm16]
  | .andi imm16 reg1 reg2 => [hw reg2 0b110110 reg1, imm16]
  | .mulhi imm16 reg1 reg2 => [hw reg2 0b110111 reg1, imm16]
  | .jmp32 disp reg1 => [hw 0 0b110111 reg1, hwD (disp.extractLsb' 0 15) 0, disp.extractLsb' 15 16]
  | .ldB disp reg1 reg2 => [hw reg2 0b111000 reg1, disp]
  | .ldH disp reg1 reg2 => [hw reg2 0b111001 reg1, hwD disp 0]
  | .ldW disp reg1 reg2 => [hw reg2 0b111001 reg1, hwD disp 1]
  | .stB reg2 disp reg1 => [hw reg2 0b111010 reg1, disp]
  | .stH reg2 disp reg1 => [hw reg2 0b111011 reg1, hwD disp 0]
  | .stW reg2 disp reg1 => [hw reg2 0b111011 reg1, hwD disp 1]
  | .prepare list imm5 => [frameHalf 0b11110 imm5 list, listHalf list 0b00001]
  | .prepareSp list imm5 => [frameHalf 0b11110 imm5 list, listHalf list 0b00011]
  | .prepareImm16 list imm5 imm16 => [frameHalf 0b11110 imm5 list, listHalf list 0b01011, imm16]
  | .prepareImm16Shl list imm5 imm16 => [frameHalf 0b11110 imm5 list, listHalf list 0b10011, imm16]
  | .prepareImm32 list imm5 imm32 => [frameHalf 0b11110 imm5 list, listHalf list 0b11011, imm32.extractLsb' 0 16, imm32.extractLsb' 16 16]
  | .jr22 disp => [hw 0 (0b11110#5 ++ disp.extractLsb' 20 1) (disp.extractLsb' 15 5), hwD (disp.extractLsb' 0 15) 0]
  | .jarl22 disp reg2 => [hw reg2 (0b11110#5 ++ disp.extractLsb' 20 1) (disp.extractLsb' 15 5), hwD (disp.extractLsb' 0 15) 0]
  | .ldBu disp reg1 reg2 => [hw reg2 (0b11110#5 ++ disp.extractLsb' 0 1) reg1, hwD (disp.extractLsb' 1 15) 1]
  | .ldB23 disp reg1 reg3 => [hw 0 0b111100 reg1, hw reg3 (disp.extractLsb' 1 6) (disp.extractLsb' 0 1 ++ 0b0101#4), disp.extractLsb' 7 16]
  | .ldH23 disp reg1 reg3 => [hw 0 0b111100 reg1, hw reg3 (disp.extractLsb' 0 6) 0b00111, disp.extractLsb' 6 16]
  | .ldW23 disp reg1 reg3 => [hw 0 0b111100 reg1, hw reg3 (disp.extractLsb' 0 6) 0b01001, disp.extractLsb' 6 16]
  | .stB23 reg3 disp reg1 => [hw 0 0b111100 reg1, hw reg3 (disp.extractLsb' 1 6) (disp.extractLsb' 0 1 ++ 0b1101#4), disp.extractLsb' 7 16]
  | .stW23 reg3 disp reg1 => [hw 0 0b111100 reg1, hw reg3 (disp.extractLsb' 0 6) 0b01111, disp.extractLsb' 6 16]
  | .ldBu23 disp reg1 reg3 => [hw 0 0b111101 reg1, hw reg3 (disp.extractLsb' 1 6) (disp.extractLsb' 0 1 ++ 0b0101#4), disp.extractLsb' 7 16]
  | .ldHu23 disp reg1 reg3 => [hw 0 0b111101 reg1, hw reg3 (disp.extractLsb' 0 6) 0b00111, disp.extractLsb' 6 16]
  | .stH23 reg3 disp reg1 => [hw 0 0b111101 reg1, hw reg3 (disp.extractLsb' 0 6) 0b01101, disp.extractLsb' 6 16]
  | .set1 bit disp reg1 => [hw (0b00#2 ++ bit) 0b111110 reg1, disp]
  | .not1 bit disp reg1 => [hw (0b01#2 ++ bit) 0b111110 reg1, disp]
  | .clr1 bit disp reg1 => [hw (0b10#2 ++ bit) 0b111110 reg1, disp]
  | .tst1 bit disp reg1 => [hw (0b11#2 ++ bit) 0b111110 reg1, disp]
  | .ldHu disp reg1 reg2 => [hw reg2 0b111111 reg1, hwD disp 1]
  | .setf cond reg2 => [hw reg2 0b111111 (0#1 ++ cond), hw 0 0 0]
  | .rieImm imm5 imm4 => [hw imm5 0b111111 (1#1 ++ imm4), hw 0 0 0]
  | .ldsr reg2 regID => [hw regID 0b111111 reg2, hw 0 0b000001 0]
  | .stsr regID reg2 => [hw reg2 0b111111 regID, hw 0 0b000010 0]
  | .shr reg1 reg2 => [hw reg2 0b111111 reg1, hw 0 0b000100 0]
  | .shr3 reg1 reg2 reg3 => [hw reg2 0b111111 reg1, hw reg3 0b000100 0b00010]
  | .sar reg1 reg2 => [hw reg2 0b111111 reg1, hw 0 0b000101 0]
  | .sar3 reg1 reg2 reg3 => [hw reg2 0b111111 reg1, hw reg3 0b000101 0b00010]
  | .shl reg1 reg2 => [hw reg2 0b111111 reg1, hw 0 0b000110 0]
  | .shl3 reg1 reg2 reg3 => [hw reg2 0b111111 reg1, hw reg3 0b000110 0b00010]
  | .set1Reg reg2 reg1 => [hw reg2 0b111111 reg1, hw 0 0b000111 0]
  | .not1Reg reg2 reg1 => [hw reg2 0b111111 reg1, hw 0 0b000111 0b00010]
  | .clr1Reg reg2 reg1 => [hw reg2 0b111111 reg1, hw 0 0b000111 0b00100]
  | .tst1Reg reg2 reg1 => [hw reg2 0b111111 reg1, hw 0 0b000111 0b00110]
  | .caxi reg1 reg2 reg3 => [hw reg2 0b111111 reg1, hw reg3 0b000111 0b01110]
  | .trap vector5 => [hw 0 0b111111 vector5, hw 0 0b001000 0]
  | .halt => [hw 0 0b111111 0, hw 0 0b001001 0]
  | .reti => [hw 0 0b111111 0, hw 0 0b001010 0]
  | .ctret => [hw 0 0b111111 0, hw 0 0b001010 0b00100]
  | .eiret => [hw 0 0b111111 0, hw 0 0b001010 0b01000]
  | .feret => [hw 0 0b111111 0, hw 0 0b001010 0b01010]
  | .di => [hw 0 0b111111 0, hw 0 0b001011 0]
  | .ei => [hw 0b10000 0b111111 0, hw 0 0b001011 0]
  | .syscall vector8 => [hw 0b11010 0b111111 (vector8.extractLsb' 0 5), hw (0#2 ++ vector8.extractLsb' 5 3) 0b001011 0]
  | .sasf cond reg2 => [hw reg2 0b111111 (0#1 ++ cond), hw 0 0b010000 0]
  | .mul reg1 reg2 reg3 => [hw reg2 0b111111 reg1, hw reg3 0b010001 0]
  | .mulu reg1 reg2 reg3 => [hw reg2 0b111111 reg1, hw reg3 0b010001 0b00010]
  | .mulImm9 imm9 reg2 reg3 => [hw reg2 0b111111 (imm9.extractLsb' 0 5), hw reg3 (0b01001#5 ++ imm9.extractLsb' 8 1) (imm9.extractLsb' 5 3 ++ 0b00#2)]
  | .muluImm9 imm9 reg2 reg3 => [hw reg2 0b111111 (imm9.extractLsb' 0 5), hw reg3 (0b01001#5 ++ imm9.extractLsb' 8 1) (imm9.extractLsb' 5 3 ++ 0b10#2)]
  | .divh reg1 reg2 reg3 => [hw reg2 0b111111 reg1, hw reg3 0b010100 0]
  | .divhu reg1 reg2 reg3 => [hw reg2 0b111111 reg1, hw reg3 0b010100 0b00010]
  | .div reg1 reg2 reg3 => [hw reg2 0b111111 reg1, hw reg3 0b010110 0]
  | .divu reg1 reg2 reg3 => [hw reg2 0b111111 reg1, hw reg3 0b010110 0b00010]
  | .divq reg1 reg2 reg3 => [hw reg2 0b111111 reg1, hw reg3 0b010111 0b11100]
  | .divqu reg1 reg2 reg3 => [hw reg2 0b111111 reg1, hw reg3 0b010111 0b11110]
  | .cmovImm5 cond imm5 reg2 reg3 => [hw reg2 0b111111 imm5, hw reg3 0b011000 (cond ++ 0#1)]
  | .cmov cond reg1 reg2 reg3 => [hw reg2 0b111111 reg1, hw reg3 0b011001 (cond ++ 0#1)]
  | .bsw reg2 reg3 => [hw reg2 0b111111 0, hw reg3 0b011010 0]
  | .bsh reg2 reg3 => [hw reg2 0b111111 0, hw reg3 0b011010 0b00010]
  | .hsw reg2 reg3 => [hw reg2 0b111111 0, hw reg3 0b011010 0b00100]
  | .hsh reg2 reg3 => [hw reg2 0b111111 0, hw reg3 0b011010 0b00110]
  | .sch0r reg2 reg3 => [hw reg2 0b111111 0, hw reg3 0b011011 0]
  | .sch1r reg2 reg3 => [hw reg2 0b111111 0, hw reg3 0b011011 0b00010]
  | .sch0l reg2 reg3 => [hw reg2 0b111111 0, hw reg3 0b011011 0b00100]
  | .sch1l reg2 reg3 => [hw reg2 0b111111 0, hw reg3 0b011011 0b00110]
  | .sbf cond reg1 reg2 reg3 => [hw reg2 0b111111 reg1, hw reg3 0b011100 (cond ++ 0#1)]
  | .satsub3 reg1 reg2 reg3 => [hw reg2 0b111111 reg1, hw reg3 0b011100 0b11010]
  | .adf cond reg1 reg2 reg3 => [hw reg2 0b111111 reg1, hw reg3 0b011101 (cond ++ 0#1)]
  | .satadd3 reg1 reg2 reg3 => [hw reg2 0b111111 reg1, hw reg3 0b011101 0b11010]
  | .mac reg1 reg2 reg3 reg4 => [hw reg2 0b111111 reg1, hw (pairField reg3) 0b011110 (pairField reg4)]
  | .macu reg1 reg2 reg3 reg4 => [hw reg2 0b111111 reg1, hw (pairField reg3) 0b011111 (pairField reg4)]
  | .absfD reg2 reg3 => [hw (pairField reg2) 0b111111 0, hw (pairField reg3) 0b100010 0b11000]
  | .absfS reg2 reg3 => [hw reg2 0b111111 0, hw reg3 0b100010 0b01000]
  | .addfD reg1 reg2 reg3 => [hw (pairField reg2) 0b111111 (pairField reg1), hw (pairField reg3) 0b100011 0b10000]
  | .addfS reg1 reg2 reg3 => [hw reg2 0b111111 reg1, hw reg3 0b100011 0]
  | .ceilfDl reg2 reg3 => [hw (pairField reg2) 0b111111 0b00010, hw (pairField reg3) 0b100010 0b10100]
  | .ceilfDul reg2 reg3 => [hw (pairField reg2) 0b111111 0b10010, hw (pairField reg3) 0b100010 0b10100]
  | .ceilfDuw reg2 reg3 => [hw (pairField reg2) 0b111111 0b10010, hw reg3 0b100010 0b10000]
  | .ceilfDw reg2 reg3 => [hw (pairField reg2) 0b111111 0b00010, hw reg3 0b100010 0b10000]
  | .ceilfSl reg2 reg3 => [hw reg2 0b111111 0b00010, hw (pairField reg3) 0b100010 0b00100]
  | .ceilfSul reg2 reg3 => [hw reg2 0b111111 0b10010, hw (pairField reg3) 0b100010 0b00100]
  | .ceilfSuw reg2 reg3 => [hw reg2 0b111111 0b10010, hw reg3 0b100010 0]
  | .ceilfSw reg2 reg3 => [hw reg2 0b111111 0b00010, hw reg3 0b100010 0]
  | .cmovfD fcbit reg1 reg2 reg3 => [hw (pairField reg2) 0b111111 (pairField reg1), hw (pairField reg3) 0b100000 (1#1 ++ fcbit ++ 0#1)]
  | .cmovfS fcbit reg1 reg2 reg3 => [hw reg2 0b111111 reg1, hw reg3 0b100000 (0#1 ++ fcbit ++ 0#1)]
  | .cmpfD fcond reg2 reg1 fcbit => [hw (pairField reg2) 0b111111 (pairField reg1), hw (0#1 ++ fcond) 0b100001 (1#1 ++ fcbit ++ 0#1)]
  | .cmpfS fcond reg2 reg1 fcbit => [hw reg2 0b111111 reg1, hw (0#1 ++ fcond) 0b100001 (0#1 ++ fcbit ++ 0#1)]
  | .cvtfDl reg2 reg3 => [hw (pairField reg2) 0b111111 0b00100, hw (pairField reg3) 0b100010 0b10100]
  | .cvtfDs reg2 reg3 => [hw (pairField reg2) 0b111111 0b00011, hw reg3 0b100010 0b10010]
  | .cvtfDul reg2 reg3 => [hw (pairField reg2) 0b111111 0b10100, hw (pairField reg3) 0b100010 0b10100]
  | .cvtfDuw reg2 reg3 => [hw (pairField reg2) 0b111111 0b10100, hw reg3 0b100010 0b10000]
  | .cvtfDw reg2 reg3 => [hw (pairField reg2) 0b111111 0b00100, hw reg3 0b100010 0b10000]
  | .cvtfLd reg2 reg3 => [hw (pairField reg2) 0b111111 0b00001, hw (pairField reg3) 0b100010 0b10010]
  | .cvtfLs reg2 reg3 => [hw (pairField reg2) 0b111111 0b00001, hw reg3 0b100010 0b00010]
  | .cvtfSd reg2 reg3 => [hw reg2 0b111111 0b00010, hw (pairField reg3) 0b100010 0b10010]
  | .cvtfSl reg2 reg3 => [hw reg2 0b111111 0b00100, hw (pairField reg3) 0b100010 0b00100]
  | .cvtfSul reg2 reg3 => [hw reg2 0b111111 0b10100, hw (pairField reg3) 0b100010 0b00100]
  | .cvtfSuw reg2 reg3 => [hw reg2 0b111111 0b10100, hw reg3 0b100010 0]
  | .cvtfSw reg2 reg3 => [hw reg2 0b111111 0b00100, hw reg3 0b100010 0]
  | .cvtfUld reg2 reg3 => [hw (pairField reg2) 0b111111 0b10001, hw (pairField reg3) 0b100010 0b10010]
  | .cvtfUls reg2 reg3 => [hw (pairField reg2) 0b111111 0b10001, hw reg3 0b100010 0b00010]
  | .cvtfUwd reg2 reg3 => [hw reg2 0b111111 0b10000, hw (pairField reg3) 0b100010 0b10010]
  | .cvtfUws reg2 reg3 => [hw reg2 0b111111 0b10000, hw reg3 0b100010 0b00010]
  | .cvtfWd reg2 reg3 => [hw reg2 0b111111 0, hw (pairField reg3) 0b100010 0b10010]
  | .cvtfWs reg2 reg3 => [hw reg2 0b111111 0, hw reg3 0b100010 0b00010]
  | .divfD reg1 reg2 reg3 => [hw (pairField reg2) 0b111111 (pairField reg1), hw (pairField reg3) 0b100011 0b11110]
  | .divfS reg1 reg2 reg3 => [hw reg2 0b111111 reg1, hw reg3 0b100011 0b01110]
  | .floorfDl reg2 reg3 => [hw (pairField reg2) 0b111111 0b00011, hw (pairField reg3) 0b100010 0b10100]
  | .floorfDul reg2 reg3 => [hw (pairField reg2) 0b111111 0b10011, hw (pairField reg3) 0b100010 0b10100]
  | .floorfDuw reg2 reg3 => [hw (pairField reg2) 0b111111 0b10011, hw reg3 0b100010 0b10000]
  | .floorfDw reg2 reg3 => [hw (pairField reg2) 0b111111 0b00011, hw reg3 0b100010 0b10000]
  | .floorfSl reg2 reg3 => [hw reg2 0b111111 0b00011, hw (pairField reg3) 0b100010 0b00100]
  | .floorfSul reg2 reg3 => [hw reg2 0b111111 0b10011, hw (pairField reg3) 0b100010 0b00100]
  | .floorfSuw reg2 reg3 => [hw reg2 0b111111 0b10011, hw reg3 0b100010 0]
  | .floorfSw reg2 reg3 => [hw reg2 0b111111 0b00011, hw reg3 0b100010 0]
  | .maddfS reg1 reg2 reg3 reg4 => [hw reg2 0b111111 reg1, hw reg3 (0b101#3 ++ reg4.extractLsb' 0 1 ++ 0b00#2) (reg4.extractLsb' 1 4 ++ 0#1)]
  | .maxfD reg1 reg2 reg3 => [hw (pairField reg2) 0b111111 (pairField reg1), hw (pairField reg3) 0b100011 0b11000]
  | .maxfS reg1 reg2 reg3 => [hw reg2 0b111111 reg1, hw reg3 0b100011 0b01000]
  | .minfD reg1 reg2 reg3 => [hw (pairField reg2) 0b111111 (pairField reg1), hw (pairField reg3) 0b100011 0b11010]
  | .minfS reg1 reg2 reg3 => [hw reg2 0b111111 reg1, hw reg3 0b100011 0b01010]
  | .msubfS reg1 reg2 reg3 reg4 => [hw reg2 0b111111 reg1, hw reg3 (0b101#3 ++ reg4.extractLsb' 0 1 ++ 0b01#2) (reg4.extractLsb' 1 4 ++ 0#1)]
  | .mulfD reg1 reg2 reg3 => [hw (pairField reg2) 0b111111 (pairField reg1), hw (pairField reg3) 0b100011 0b10100]
  | .mulfS reg1 reg2 reg3 => [hw reg2 0b111111 reg1, hw reg3 0b100011 0b00100]
  | .negfD reg2 reg3 => [hw (pairField reg2) 0b111111 0b00001, hw (pairField reg3) 0b100010 0b11000]
  | .negfS reg2 reg3 => [hw reg2 0b111111 0b00001, hw reg3 0b100010 0b01000]
  | .nmaddfS reg1 reg2 reg3 reg4 => [hw reg2 0b111111 reg1, hw reg3 (0b101#3 ++ reg4.extractLsb' 0 1 ++ 0b10#2) (reg4.extractLsb' 1 4 ++ 0#1)]
  | .nmsubfS reg1 reg2 reg3 reg4 => [hw reg2 0b111111 reg1, hw reg3 (0b101#3 ++ reg4.extractLsb' 0 1 ++ 0b11#2) (reg4.extractLsb' 1 4 ++ 0#1)]
  | .recipfD reg2 reg3 => [hw (pairField reg2) 0b111111 0b00001, hw (pairField reg3) 0b100010 0b11110]
  | .recipfS reg2 reg3 => [hw reg2 0b111111 0b00001, hw reg3 0b100010 0b01110]
  | .rsqrtfD reg2 reg3 => [hw (pairField reg2) 0b111111 0b00010, hw (pairField reg3) 0b100010 0b11110]
  | .rsqrtfS reg2 reg3 => [hw reg2 0b111111 0b00010, hw reg3 0b100010 0b01110]
  | .sqrtfD reg2 reg3 => [hw (pairField reg2) 0b111111 0, hw (pairField reg3) 0b100010 0b11110]
  | .sqrtfS reg2 reg3 => [hw reg2 0b111111 0, hw reg3 0b100010 0b01110]
  | .subfD reg1 reg2 reg3 => [hw (pairField reg2) 0b111111 (pairField reg1), hw (pairField reg3) 0b100011 0b10010]
  | .subfS reg1 reg2 reg3 => [hw reg2 0b111111 reg1, hw reg3 0b100011 0b00010]
  | .trfsr fcbit => [hw 0 0b111111 0, hw 0 0b100000 (0#1 ++ fcbit ++ 0#1)]
  | .trncfDl reg2 reg3 => [hw (pairField reg2) 0b111111 0b00001, hw (pairField reg3) 0b100010 0b10100]
  | .trncfDul reg2 reg3 => [hw (pairField reg2) 0b111111 0b10001, hw (pairField reg3) 0b100010 0b10100]
  | .trncfDuw reg2 reg3 => [hw (pairField reg2) 0b111111 0b10001, hw reg3 0b100010 0b10000]
  | .trncfDw reg2 reg3 => [hw (pairField reg2) 0b111111 0b00001, hw reg3 0b100010 0b10000]
  | .trncfSl reg2 reg3 => [hw reg2 0b111111 0b00001, hw (pairField reg3) 0b100010 0b00100]
  | .trncfSul reg2 reg3 => [hw reg2 0b111111 0b10001, hw (pairField reg3) 0b100010 0b00100]
  | .trncfSuw reg2 reg3 => [hw reg2 0b111111 0b10001, hw reg3 0b100010 0]
  | .trncfSw reg2 reg3 => [hw reg2 0b111111 0b00001, hw reg3 0b100010 0]

/-- The two bytes of a halfword, the low one first (R225). -/
def bytesOfHalf (h : Half) : List Byte := [h.extractLsb' 0 8, h.extractLsb' 8 8]

/-- The bytes of an instruction as they lie in memory. -/
def encodeBytes (i : Instr) : List Byte := (encode i).flatMap bytesOfHalf

/-- The length of an instruction in bytes (R270). -/
def Instr.size (i : Instr) : Nat := 2 * (encode i).length

end Sys2Proof
end

