-- ==== Sys2Proof/Machine/Fetch.lean ====
section
/-! DEFINITION. What happens at an instruction boundary (R307, R1005): which request is acknowledged, how an instruction
is fetched and checked, what an opcode that is no instruction does, how the counters advance. `step` only calls these. -/
namespace Sys2Proof.Machine

/-! ### Requests (R1006, R1011, R1012) -/

/-- A request that is examined at an instruction boundary, from the highest priority to the lowest. -/
inductive Request where
  | fenmi
  | syserr (k : Fin 4)
  | ppi
  | tsi
  | feint
  | fpi
  | int (n : Byte)
  deriving DecidableEq, Repr

/-- The requests present, in order of priority (R1006): the inputs of the environment and the report bits (R1031). -/
def State.requests (s : State) (e : Ext) : List Request :=
  (if e.fenmi then [.fenmi] else []) ++ (e.syserr.map Request.syserr).toList ++
    (if s.ppu.ppec.getLsbD 0 then [.ppi] else []) ++ (if s.tsu.request then [.tsi] else []) ++
    (if e.feint then [.feint] else []) ++ (if s.fpu.fpec.getLsbD 0 then [.fpi] else []) ++
    (e.int.map Request.int).toList

/-- The acknowledgement condition (R1012). -/
def State.acceptable (s : State) : Request → Bool
  | .fenmi => true
  | .syserr _ => true
  | .ppi => !s.fNP
  | .tsi => !s.fNP
  | .feint => !s.fNP
  | .fpi => !s.fNP && !s.fID
  | .int _ => !s.fNP && !s.fID

/-- The request that is acknowledged at this boundary, if any. -/
def State.chosen (s : State) (e : Ext) : Option Request := (s.requests e).find? s.acceptable

/-- The requests that release the HALT state: all but FPI, whether acceptable or not (R594). -/
def Request.releases : Request → Bool
  | .fpi => false
  | _ => true

/-- A request is acknowledged: its report bit is withdrawn or its acknowledgement reported, and the exception is taken,
returning to the instruction that has not executed (R1014, R1016, R1017). -/
def State.acknowledge (s : State) (r : Request) : State :=
  match r with
  | .fenmi => s.takeException .fenmi s.pc
  | .syserr k => s.takeException (.syserr k) s.pc
  | .ppi => State.takeException { s with ppu := { s.ppu with ppec := 0 } } .ppi s.pc
  | .tsi => State.takeException { s with tsu := s.tsu.acknowledge } .tsi s.pc
  | .feint => s.takeException .feint s.pc
  | .fpi => State.takeException { s with fpu := { s.fpu with fpec := 0 } } .fpi s.pc
  | .int n =>
    State.takeException { s with reports := .ackInt n :: s.reports } (.int (s.main.ehCfg.getLsbD 0) n) s.pc

/-! ### Fetching (R226, R270, R872) -/

/-- What comes of fetching an instruction. -/
inductive Fetched where
  /-- The halfwords from the program counter on; those beyond the instruction's length are 0. -/
  | halves (h1 h2 h3 h4 : Half)
  /-- A halfword is not executable (R872). -/
  | violation
  /-- Nothing answers at an address. -/
  | nothing (a : Word)
  /-- A device answers at an address. -/
  | device (a : Word)
  deriving DecidableEq, Repr

/-- A byte for the instruction fetch, which changes no state. -/
def State.fetchByte (s : State) (a : Word) (f : Byte → Fetched) : Fetched :=
  match memKind s.cfg a with
  | .ram => f (s.mem.read a.toNat)
  | .tsu off => f (byteOf (s.tsu.read off) (off % 4))
  | .ppu off => f (byteOf (s.ppu.read off) (off % 4))
  | .device => .device a
  | .nothing => .nothing a

/-- The address of byte `k` of the instruction: in a 512 MB product it stays in the range of instruction addresses (R222,
R35). -/
def State.fetchAddr (s : State) (k : Nat) : Word := limitAddr s.cfg (s.pc + BitVec.ofNat 32 k)

/-- The halfword of the instruction that starts at its byte `k`, checked for execution first. -/
def State.fetchHalf (s : State) (k : Nat) (f : Half → Fetched) : Fetched :=
  if s.permitsFetch (s.fetchAddr k) then
    s.fetchByte (s.fetchAddr k) fun lo => s.fetchByte (s.fetchAddr (k + 1)) fun hi => f (halfOfBytes lo hi)
  else .violation

/-- The instruction at the program counter: as many halfwords as it has (R287). -/
def State.fetch (s : State) : Fetched :=
  s.fetchHalf 0 fun h1 =>
    if needsSecond h1 then
      s.fetchHalf 2 fun h2 =>
        let n := instrLength h1 h2
        if n ≤ 4 then .halves h1 h2 0 0
        else
          s.fetchHalf 4 fun h3 =>
            if n ≤ 6 then .halves h1 h2 h3 0
            else s.fetchHalf 6 fun h4 => .halves h1 h2 h3 h4
    else .halves h1 0 0 0

/-! ### Opcodes that are no instruction (R297, R661, R1032) -/

/-- The reserved instruction exception (R602, R1034). -/
def State.raiseRie (s : State) : State := s.takeException .rie s.pc

/-- The opcode of four halfwords, the first in the low bits, as spec/opcode_table.json numbers them. -/
def opcodeOf (h1 h2 h3 h4 : Half) : DWord := h4 ++ h3 ++ h2 ++ h1
/-- Halfword `k` of an opcode. -/
def opcodeHalf (w : DWord) (k : Nat) : Half := w.extractLsb' (16 * k) 16

/-- An encoding with a field of an opcode put in. -/
def OperandField.put (opcode encoding : DWord) (p : OperandField) : DWord :=
  let lane := BitVec.ofNat 64 (2 ^ p.count - 1) <<< p.dst
  encoding &&& ~~~lane ||| opcode >>> p.src <<< p.dst &&& lane

/-- The encoding that an opcode operates as. -/
def OpcodeForm.encoding (opcode : DWord) (f : OpcodeForm) : DWord := f.fields.foldl (OperandField.put opcode) f.base

/-- The instruction of the spec that an opcode operates as by an entry of the product (R297, R1034): what its form encodes.
An entry with no form, or with one that encodes no instruction, stands for an instruction that the spec does not describe. -/
def ProductOpcode.instr (opcode : DWord) (p : ProductOpcode) : Option Instr :=
  p.form.bind fun f =>
    let e := OpcodeForm.encoding opcode f
    (decodeHalves (opcodeHalf e 0) (opcodeHalf e 1) (opcodeHalf e 2) (opcodeHalf e 3)).toOption

/-- An entry decides an opcode: its selected bits are as the entry says, and the instruction it operates as has the length
that R287 gives the opcode (log entry 9). -/
def ProductOpcode.decides (opcode : DWord) (p : ProductOpcode) : Bool :=
  opcode &&& p.mask == p.value &&
    (ProductOpcode.instr opcode p).all (·.size == instrLength (opcodeHalf opcode 0) (opcodeHalf opcode 1))

/-- A reserved opcode, as the product has it by the first entry that decides it: the reserved instruction exception if none
does, else the instruction that the entry names for it, with that instruction's whole effect (R297, R1034). -/
def State.reservedCpu (run : Instr → State → Host.Outcome State Fault Refusal) (s : State) (opcode : DWord) :
    Host.Outcome State Fault Refusal :=
  match s.cfg.productOpcodes.find? (ProductOpcode.decides opcode) with
  | none => .next s.raiseRie
  | some p =>
    match ProductOpcode.instr opcode p with
    | some i => run i s
    | none => .refused .productInstruction

/-- The unimplemented operation exception of an undefined floating-point opcode, always precise (R661, D55). -/
def State.raiseUnimplemented (s : State) : State :=
  State.takeException
    { s with fpu := { s.fpu with
        fpsr := s.fpu.fpsr &&& 0xFFFE03FF ||| 0x00018000, fpepc := limitAddr s.cfg s.pc } }
    .fpp s.pc

/-- An undefined opcode of the coprocessor area (R661, R1032). -/
def State.reservedFp (run : Instr → State → Host.Outcome State Fault Refusal) (s : State) (opcode : DWord) :
    Host.Outcome State Fault Refusal :=
  if s.cfg.hasFpu then
    match s.cfg.reservedFpOpcode with
    | .unimplemented => .next s.raiseUnimplemented
    | .unusable => .next (s.takeException (.ucpop s.cfg.ucpopUndefined) s.pc)
    | .reserved => s.reservedCpu run opcode
  else .next (s.takeException (.ucpop s.cfg.ucpopUndefined) s.pc)

/-- What a step does with the halfwords it fetched: run the instruction, or what its opcode does as no instruction. -/
def State.runHalves (run : Instr → State → Host.Outcome State Fault Refusal) (s : State) (h1 h2 h3 h4 : Half) :
    Host.Outcome State Fault Refusal :=
  match decodeHalves h1 h2 h3 h4 with
  | .ok i => run i s
  | .error .reservedFpOpcode => s.reservedFp run (opcodeOf h1 h2 h3 h4)
  | .error _ => s.reservedCpu run (opcodeOf h1 h2 h3 h4)

/-! ### The boundary (R307) -/

/-- The input of this boundary; an empty list is quiet. -/
def State.input (s : State) : Ext := s.inputs.headD Ext.quiet

/-- The state with the input of this boundary consumed. -/
def State.dropInput (s : State) : State := { s with inputs := s.inputs.tail, stopAfter := s.input.stopAfter }

/-- An instruction is fetched and run (R307, steps 2 to 5). MIP comes before MEP (R1006). -/
def State.fetchAndRun (run : Instr → State → Host.Outcome State Fault Refusal) (e : Ext) (s : State) :
    Host.Outcome State Fault Refusal :=
  match s.fetch, e.mep with
  | .violation, _ => .next s.raiseMip
  | _, some k => .next (s.takeException (.mep k) s.pc)
  | .nothing a, none => .fault (.fetchFromNothing a)
  | .device a, none => .fault (.fetchFromDevice a)
  | .halves h1 h2 h3 h4, none => s.runHalves run h1 h2 h3 h4

/-- One boundary of a machine that is not halted: a request is acknowledged, or an instruction runs (R1005). -/
def State.boundary (run : Instr → State → Host.Outcome State Fault Refusal) (e : Ext) (s : State) :
    Host.Outcome State Fault Refusal :=
  match s.chosen e with
  | some r => .next (s.acknowledge r)
  | none => s.fetchAndRun run e

/-- What counter `k` is given to count in a step: its CPU clocks, or external events in a product that selects them
(TS_CLOCK and TS_EVENT_SOURCES of R6, R910). -/
def Ext.pulses (e : Ext) (cfg : Config) (k : Fin 6) : Nat :=
  if cfg.tsEventSources.get k then e.events.get k else e.extraClocks + 1

/-- The counters advance by what the step gives them (R910, D63). -/
def State.tick (e : Ext) (s : State) : State :=
  { s with tsu := { s.tsu with
      counters := Vector.ofFn fun k => (s.tsu.counters.get k).tick (e.pulses s.cfg k) } }

/-- The counters advance when there is a next state. -/
def tickOutcome (e : Ext) : Host.Outcome State Fault Refusal → Host.Outcome State Fault Refusal
  | .next s => .next (s.tick e)
  | .fault f => .fault f
  | .refused r => .refused r

/-- A whole step: reset before all else (R1103), the HALT state until a request releases it (R594), else a boundary; then
the counters advance. -/
def State.stepWith (run : Instr → State → Host.Outcome State Fault Refusal) (s : State) :
    Host.Outcome State Fault Refusal :=
  let e := s.input
  let s := s.dropInput
  tickOutcome e
    (if e.reset then .next s.resetFrom
     else if s.halted then
       (if (s.requests e).any Request.releases then State.boundary run e { s with halted := false } else .next s)
     else s.boundary run e)

/-! ### Placing an instruction -/

/-- Bytes stored one after another into memory, from byte `k` of the instruction on, whatever lies behind the addresses. -/
def State.placeBytes (s : State) (k : Nat) : List Byte → State
  | [] => s
  | b :: bs => State.placeBytes { s with mem := s.mem.write (s.fetchAddr k).toNat b } (k + 1) bs

end Sys2Proof.Machine
end

