-- ==== Sys2Proof/Machine/Special.lean ====
section
/-! DEFINITION. Special instructions (R580 to R614), and the three SYNC instructions (R241 to R243). -/
namespace Sys2Proof.Machine

/-- NOP (R603). -/
def execNop (s : State) : Result := .next (s.advance 2)

/-- SYNCE: the floating-point report is already settled in a core that runs in order (R243, log entry 14). -/
def execSynce (s : State) : Result := .next (s.advance 2)

/-- SYNCM: every access is already complete (R241, log entry 14). -/
def execSyncm (s : State) : Result := .next (s.advance 2)

/-- SYNCP: every earlier instruction is already complete (R242, log entry 14). -/
def execSyncp (s : State) : Result := .next (s.advance 2)

/-- CALLT: the table entry is read first, then the link is saved (R581). The spec does not say where it goes when peripheral
protection stops the read: here by a free entry, as a load takes a free value (DESIGN CHOICE, log entry 15). -/
def execCallt (imm6 : BitVec 6) (s : State) : Result :=
  (s.load (s.main.ctbp + zext (even imm6)) 2 false).finish fun entry t =>
    (t.setMain { t.main with ctpc := limitAddr s.cfg (s.pc + 2), ctpsw := s.psw }).setPc (s.main.ctbp + zextH entry)

/-- CAXI: compare reg2 with the word, store reg3 or the word itself, give the word to reg3 (R580). -/
def execCaxi (reg1 : Reg) (reg2 : Reg) (reg3 : Reg) (s : State) : Result :=
  (s.modify (wordAligned (s.reg reg1)) 4 (reg1 == spReg) fun token =>
      if s.reg reg2 = token then s.reg reg3 else token).finish fun v t =>
    t.compareMove (subc (s.reg reg2) v.1 false) reg3 v.1

/-- CTRET (R583). -/
def execCtret (s : State) : Result := .next (s.returnTo s.main.ctpc s.main.ctpsw)

/-- DI: sets ID (R585). -/
def execDi (s : State) : Result := .next ((s.putPsw (putBit s.psw 5 true)).advance 4)

/-- EI: clears ID (R589). -/
def execEi (s : State) : Result := .next ((s.putPsw (putBit s.psw 5 false)).advance 4)

/-- DISPOSE: loads the listed registers and moves sp (R587). -/
def execDispose (list : BitVec 12) (imm5 : BitVec 5) (s : State) : Result := s.disposed list imm5 fun t => t.advance 4

/-- DISPOSE with a jump: reg1 is read after the loads (R588). -/
def execDisposeJmp (list : BitVec 12) (imm5 : BitVec 5) (reg1 : Reg) (s : State) : Result :=
  s.disposed list imm5 fun t => t.setPc (t.reg reg1)

/-- EIRET (R590, R917, R1024). -/
def execEiret (s : State) : Result := .next ((s.reportEnd.returnTo s.main.eipc s.main.eipsw).tsuLeave .ei)

/-- FERET (R591, R917, R1024). -/
def execFeret (s : State) : Result := .next ((s.reportEnd.returnTo s.main.fepc s.main.fepsw).tsuLeave .fe)

/-- RETI: the save registers by EP and NP (R601); it leaves the counters alone (D32). -/
def execReti (s : State) : Result :=
  if s.fNP && !s.fEP then .next (s.reportEnd.returnTo s.main.fepc s.main.fepsw)
  else .next (s.reportEnd.returnTo s.main.eipc s.main.eipsw)

/-- FETRAP (R592). -/
def execFetrap (vector4 : BitVec 4) (s : State) : Result := .next (s.takeException (.fetrap vector4) (s.pc + 2))

/-- TRAP (R613). -/
def execTrap (vector5 : BitVec 5) (s : State) : Result := .next (s.takeException (.trap vector5) (s.pc + 4))

/-- RIE, 16 bits (R602). -/
def execRie (s : State) : Result := .next s.raiseRie

/-- RIE imm5,imm4: the immediates are not used (R602). -/
def execRieImm (_imm5 : BitVec 5) (_imm4 : BitVec 4) (s : State) : Result := .next s.raiseRie

/-- SYSCALL: the exception, with the handler from a table that is read without protection (R614, R880, R1021). -/
def execSyscall (vector8 : BitVec 8) (s : State) : Result :=
  let t := s.enter (.syscall vector8) (s.pc + 4)
  let index : Word := if zext vector8 ≤ s.main.sccfg &&& 0xFF#32 then zext vector8 else 0
  (t.readBytes (s.main.scbp + index <<< 2) 4).finish fun entry u => u.setPc (s.main.scbp + entry)

/-- HALT: nothing runs until a release request (R594). -/
def execHalt (s : State) : Result := .next (State.advance { s with halted := true } 4)

/-- LDSR (R596). -/
def execLdsr (reg2 : Reg) (regID : BitVec 5) (s : State) : Result := .next ((s.loadSys regID (s.reg reg2)).advance 4)

/-- STSR: a reserved entry gives a free value (R611, D2). -/
def execStsr (regID : BitVec 5) (reg2 : Reg) (s : State) : Result :=
  let r := s.sysReg regID
  let t := if r = .reserved then s.bump else s
  .next (t.move reg2 (s.readSys r) 4)

/-- SWITCH: a table of signed halfwords after the instruction (R612). When peripheral protection stops the read it goes by a
free entry, which the spec leaves open (DESIGN CHOICE, log entry 15). -/
def execSwitch (reg1 : Reg) (s : State) : Result :=
  (s.load (s.pc + 2 + s.reg reg1 <<< 1) 2 false).finish fun entry t =>
    t.setPc (s.pc + 2 + sextH entry <<< 1)

/-- PREPARE: stores the listed registers and moves sp (R599). -/
def execPrepare (list : BitVec 12) (imm5 : BitVec 5) (s : State) : Result := s.prepared list imm5 fun t => t.advance 4

/-- PREPARE with sp: ep takes the new sp (R600). -/
def execPrepareSp (list : BitVec 12) (imm5 : BitVec 5) (s : State) : Result :=
  s.prepared list imm5 fun t => t.move epReg (t.reg spReg) 4

/-- PREPARE with imm16: ep takes it sign-extended (R600). -/
def execPrepareImm16 (list : BitVec 12) (imm5 : BitVec 5) (imm16 : Half) (s : State) : Result :=
  s.prepared list imm5 fun t => t.move epReg (sext imm16) 6

/-- PREPARE with imm16 << 16: ep takes it in the high halfword (R600). -/
def execPrepareImm16Shl (list : BitVec 12) (imm5 : BitVec 5) (imm16 : Half) (s : State) : Result :=
  s.prepared list imm5 fun t => t.move epReg (imm16 ++ 0#16) 6

/-- PREPARE with imm32: ep takes it (R600). -/
def execPrepareImm32 (list : BitVec 12) (imm5 : BitVec 5) (imm32 : Word) (s : State) : Result :=
  s.prepared list imm5 fun t => t.move epReg imm32 8

end Sys2Proof.Machine
end

