-- ==== Sys2Proof/Machine/Dispatch.lean ====
section
/-! DEFINITION. Each instruction and its meaning. -/
namespace Sys2Proof.Machine

def exec (i : Instr) (s : State) : Host.Outcome State Fault Refusal :=
  match i with
  | .nop => Sys2Proof.Machine.execNop s
  | .synce => Sys2Proof.Machine.execSynce s
  | .syncm => Sys2Proof.Machine.execSyncm s
  | .syncp => Sys2Proof.Machine.execSyncp s
  | .mov reg1 reg2 => Sys2Proof.Machine.execMov reg1 reg2 s
  | .not reg1 reg2 => Sys2Proof.Machine.execNot reg1 reg2 s
  | .rie => Sys2Proof.Machine.execRie s
  | .switch reg1 => Sys2Proof.Machine.execSwitch reg1 s
  | .fetrap vector4 => Sys2Proof.Machine.execFetrap vector4 s
  | .divhReg reg1 reg2 => Sys2Proof.Machine.execDivhReg reg1 reg2 s
  | .jmp reg1 => Sys2Proof.Machine.execJmp reg1 s
  | .sldBu disp reg2 => Sys2Proof.Machine.execSldBu disp reg2 s
  | .sldHu disp reg2 => Sys2Proof.Machine.execSldHu disp reg2 s
  | .zxb reg1 => Sys2Proof.Machine.execZxb reg1 s
  | .sxb reg1 => Sys2Proof.Machine.execSxb reg1 s
  | .zxh reg1 => Sys2Proof.Machine.execZxh reg1 s
  | .sxh reg1 => Sys2Proof.Machine.execSxh reg1 s
  | .satsubr reg1 reg2 => Sys2Proof.Machine.execSatsubr reg1 reg2 s
  | .satsub reg1 reg2 => Sys2Proof.Machine.execSatsub reg1 reg2 s
  | .satadd reg1 reg2 => Sys2Proof.Machine.execSatadd reg1 reg2 s
  | .mulh reg1 reg2 => Sys2Proof.Machine.execMulh reg1 reg2 s
  | .or reg1 reg2 => Sys2Proof.Machine.execOr reg1 reg2 s
  | .xor reg1 reg2 => Sys2Proof.Machine.execXor reg1 reg2 s
  | .and reg1 reg2 => Sys2Proof.Machine.execAnd reg1 reg2 s
  | .tst reg1 reg2 => Sys2Proof.Machine.execTst reg1 reg2 s
  | .subr reg1 reg2 => Sys2Proof.Machine.execSubr reg1 reg2 s
  | .sub reg1 reg2 => Sys2Proof.Machine.execSub reg1 reg2 s
  | .add reg1 reg2 => Sys2Proof.Machine.execAdd reg1 reg2 s
  | .cmp reg1 reg2 => Sys2Proof.Machine.execCmp reg1 reg2 s
  | .movImm5 imm5 reg2 => Sys2Proof.Machine.execMovImm5 imm5 reg2 s
  | .sataddImm5 imm5 reg2 => Sys2Proof.Machine.execSataddImm5 imm5 reg2 s
  | .callt imm6 => Sys2Proof.Machine.execCallt imm6 s
  | .addImm5 imm5 reg2 => Sys2Proof.Machine.execAddImm5 imm5 reg2 s
  | .cmpImm5 imm5 reg2 => Sys2Proof.Machine.execCmpImm5 imm5 reg2 s
  | .shrImm5 imm5 reg2 => Sys2Proof.Machine.execShrImm5 imm5 reg2 s
  | .sarImm5 imm5 reg2 => Sys2Proof.Machine.execSarImm5 imm5 reg2 s
  | .shlImm5 imm5 reg2 => Sys2Proof.Machine.execShlImm5 imm5 reg2 s
  | .mulhImm5 imm5 reg2 => Sys2Proof.Machine.execMulhImm5 imm5 reg2 s
  | .sldB disp reg2 => Sys2Proof.Machine.execSldB disp reg2 s
  | .sstB reg2 disp => Sys2Proof.Machine.execSstB reg2 disp s
  | .sldH disp reg2 => Sys2Proof.Machine.execSldH disp reg2 s
  | .sstH reg2 disp => Sys2Proof.Machine.execSstH reg2 disp s
  | .sldW disp reg2 => Sys2Proof.Machine.execSldW disp reg2 s
  | .sstW reg2 disp => Sys2Proof.Machine.execSstW reg2 disp s
  | .bcond cond disp => Sys2Proof.Machine.execBcond cond disp s
  | .jr32 disp => Sys2Proof.Machine.execJr32 disp s
  | .jarl32 disp reg1 => Sys2Proof.Machine.execJarl32 disp reg1 s
  | .addi imm16 reg1 reg2 => Sys2Proof.Machine.execAddi imm16 reg1 reg2 s
  | .movImm32 imm32 reg1 => Sys2Proof.Machine.execMovImm32 imm32 reg1 s
  | .movea imm16 reg1 reg2 => Sys2Proof.Machine.execMovea imm16 reg1 reg2 s
  | .movhi imm16 reg1 reg2 => Sys2Proof.Machine.execMovhi imm16 reg1 reg2 s
  | .satsubi imm16 reg1 reg2 => Sys2Proof.Machine.execSatsubi imm16 reg1 reg2 s
  | .dispose list imm5 => Sys2Proof.Machine.execDispose list imm5 s
  | .disposeJmp list imm5 reg1 => Sys2Proof.Machine.execDisposeJmp list imm5 reg1 s
  | .ori imm16 reg1 reg2 => Sys2Proof.Machine.execOri imm16 reg1 reg2 s
  | .xori imm16 reg1 reg2 => Sys2Proof.Machine.execXori imm16 reg1 reg2 s
  | .andi imm16 reg1 reg2 => Sys2Proof.Machine.execAndi imm16 reg1 reg2 s
  | .mulhi imm16 reg1 reg2 => Sys2Proof.Machine.execMulhi imm16 reg1 reg2 s
  | .jmp32 disp reg1 => Sys2Proof.Machine.execJmp32 disp reg1 s
  | .ldB disp reg1 reg2 => Sys2Proof.Machine.execLdB disp reg1 reg2 s
  | .ldH disp reg1 reg2 => Sys2Proof.Machine.execLdH disp reg1 reg2 s
  | .ldW disp reg1 reg2 => Sys2Proof.Machine.execLdW disp reg1 reg2 s
  | .stB reg2 disp reg1 => Sys2Proof.Machine.execStB reg2 disp reg1 s
  | .stH reg2 disp reg1 => Sys2Proof.Machine.execStH reg2 disp reg1 s
  | .stW reg2 disp reg1 => Sys2Proof.Machine.execStW reg2 disp reg1 s
  | .prepare list imm5 => Sys2Proof.Machine.execPrepare list imm5 s
  | .prepareSp list imm5 => Sys2Proof.Machine.execPrepareSp list imm5 s
  | .prepareImm16 list imm5 imm16 => Sys2Proof.Machine.execPrepareImm16 list imm5 imm16 s
  | .prepareImm16Shl list imm5 imm16 => Sys2Proof.Machine.execPrepareImm16Shl list imm5 imm16 s
  | .prepareImm32 list imm5 imm32 => Sys2Proof.Machine.execPrepareImm32 list imm5 imm32 s
  | .jr22 disp => Sys2Proof.Machine.execJr22 disp s
  | .jarl22 disp reg2 => Sys2Proof.Machine.execJarl22 disp reg2 s
  | .ldBu disp reg1 reg2 => Sys2Proof.Machine.execLdBu disp reg1 reg2 s
  | .ldB23 disp reg1 reg3 => Sys2Proof.Machine.execLdB23 disp reg1 reg3 s
  | .ldH23 disp reg1 reg3 => Sys2Proof.Machine.execLdH23 disp reg1 reg3 s
  | .ldW23 disp reg1 reg3 => Sys2Proof.Machine.execLdW23 disp reg1 reg3 s
  | .stB23 reg3 disp reg1 => Sys2Proof.Machine.execStB23 reg3 disp reg1 s
  | .stW23 reg3 disp reg1 => Sys2Proof.Machine.execStW23 reg3 disp reg1 s
  | .ldBu23 disp reg1 reg3 => Sys2Proof.Machine.execLdBu23 disp reg1 reg3 s
  | .ldHu23 disp reg1 reg3 => Sys2Proof.Machine.execLdHu23 disp reg1 reg3 s
  | .stH23 reg3 disp reg1 => Sys2Proof.Machine.execStH23 reg3 disp reg1 s
  | .set1 bit disp reg1 => Sys2Proof.Machine.execSet1 bit disp reg1 s
  | .not1 bit disp reg1 => Sys2Proof.Machine.execNot1 bit disp reg1 s
  | .clr1 bit disp reg1 => Sys2Proof.Machine.execClr1 bit disp reg1 s
  | .tst1 bit disp reg1 => Sys2Proof.Machine.execTst1 bit disp reg1 s
  | .ldHu disp reg1 reg2 => Sys2Proof.Machine.execLdHu disp reg1 reg2 s
  | .setf cond reg2 => Sys2Proof.Machine.execSetf cond reg2 s
  | .rieImm imm5 imm4 => Sys2Proof.Machine.execRieImm imm5 imm4 s
  | .ldsr reg2 regID => Sys2Proof.Machine.execLdsr reg2 regID s
  | .stsr regID reg2 => Sys2Proof.Machine.execStsr regID reg2 s
  | .shr reg1 reg2 => Sys2Proof.Machine.execShr reg1 reg2 s
  | .shr3 reg1 reg2 reg3 => Sys2Proof.Machine.execShr3 reg1 reg2 reg3 s
  | .sar reg1 reg2 => Sys2Proof.Machine.execSar reg1 reg2 s
  | .sar3 reg1 reg2 reg3 => Sys2Proof.Machine.execSar3 reg1 reg2 reg3 s
  | .shl reg1 reg2 => Sys2Proof.Machine.execShl reg1 reg2 s
  | .shl3 reg1 reg2 reg3 => Sys2Proof.Machine.execShl3 reg1 reg2 reg3 s
  | .set1Reg reg2 reg1 => Sys2Proof.Machine.execSet1Reg reg2 reg1 s
  | .not1Reg reg2 reg1 => Sys2Proof.Machine.execNot1Reg reg2 reg1 s
  | .clr1Reg reg2 reg1 => Sys2Proof.Machine.execClr1Reg reg2 reg1 s
  | .tst1Reg reg2 reg1 => Sys2Proof.Machine.execTst1Reg reg2 reg1 s
  | .caxi reg1 reg2 reg3 => Sys2Proof.Machine.execCaxi reg1 reg2 reg3 s
  | .trap vector5 => Sys2Proof.Machine.execTrap vector5 s
  | .halt => Sys2Proof.Machine.execHalt s
  | .reti => Sys2Proof.Machine.execReti s
  | .ctret => Sys2Proof.Machine.execCtret s
  | .eiret => Sys2Proof.Machine.execEiret s
  | .feret => Sys2Proof.Machine.execFeret s
  | .di => Sys2Proof.Machine.execDi s
  | .ei => Sys2Proof.Machine.execEi s
  | .syscall vector8 => Sys2Proof.Machine.execSyscall vector8 s
  | .sasf cond reg2 => Sys2Proof.Machine.execSasf cond reg2 s
  | .mul reg1 reg2 reg3 => Sys2Proof.Machine.execMul reg1 reg2 reg3 s
  | .mulu reg1 reg2 reg3 => Sys2Proof.Machine.execMulu reg1 reg2 reg3 s
  | .mulImm9 imm9 reg2 reg3 => Sys2Proof.Machine.execMulImm9 imm9 reg2 reg3 s
  | .muluImm9 imm9 reg2 reg3 => Sys2Proof.Machine.execMuluImm9 imm9 reg2 reg3 s
  | .divh reg1 reg2 reg3 => Sys2Proof.Machine.execDivh reg1 reg2 reg3 s
  | .divhu reg1 reg2 reg3 => Sys2Proof.Machine.execDivhu reg1 reg2 reg3 s
  | .div reg1 reg2 reg3 => Sys2Proof.Machine.execDiv reg1 reg2 reg3 s
  | .divu reg1 reg2 reg3 => Sys2Proof.Machine.execDivu reg1 reg2 reg3 s
  | .divq reg1 reg2 reg3 => Sys2Proof.Machine.execDivq reg1 reg2 reg3 s
  | .divqu reg1 reg2 reg3 => Sys2Proof.Machine.execDivqu reg1 reg2 reg3 s
  | .cmovImm5 cond imm5 reg2 reg3 => Sys2Proof.Machine.execCmovImm5 cond imm5 reg2 reg3 s
  | .cmov cond reg1 reg2 reg3 => Sys2Proof.Machine.execCmov cond reg1 reg2 reg3 s
  | .bsw reg2 reg3 => Sys2Proof.Machine.execBsw reg2 reg3 s
  | .bsh reg2 reg3 => Sys2Proof.Machine.execBsh reg2 reg3 s
  | .hsw reg2 reg3 => Sys2Proof.Machine.execHsw reg2 reg3 s
  | .hsh reg2 reg3 => Sys2Proof.Machine.execHsh reg2 reg3 s
  | .sch0r reg2 reg3 => Sys2Proof.Machine.execSch0r reg2 reg3 s
  | .sch1r reg2 reg3 => Sys2Proof.Machine.execSch1r reg2 reg3 s
  | .sch0l reg2 reg3 => Sys2Proof.Machine.execSch0l reg2 reg3 s
  | .sch1l reg2 reg3 => Sys2Proof.Machine.execSch1l reg2 reg3 s
  | .sbf cond reg1 reg2 reg3 => Sys2Proof.Machine.execSbf cond reg1 reg2 reg3 s
  | .satsub3 reg1 reg2 reg3 => Sys2Proof.Machine.execSatsub3 reg1 reg2 reg3 s
  | .adf cond reg1 reg2 reg3 => Sys2Proof.Machine.execAdf cond reg1 reg2 reg3 s
  | .satadd3 reg1 reg2 reg3 => Sys2Proof.Machine.execSatadd3 reg1 reg2 reg3 s
  | .mac reg1 reg2 reg3 reg4 => Sys2Proof.Machine.execMac reg1 reg2 reg3 reg4 s
  | .macu reg1 reg2 reg3 reg4 => Sys2Proof.Machine.execMacu reg1 reg2 reg3 reg4 s
  | .absfD reg2 reg3 => Sys2Proof.Machine.execAbsfD reg2 reg3 s
  | .absfS reg2 reg3 => Sys2Proof.Machine.execAbsfS reg2 reg3 s
  | .addfD reg1 reg2 reg3 => Sys2Proof.Machine.execAddfD reg1 reg2 reg3 s
  | .addfS reg1 reg2 reg3 => Sys2Proof.Machine.execAddfS reg1 reg2 reg3 s
  | .ceilfDl reg2 reg3 => Sys2Proof.Machine.execCeilfDl reg2 reg3 s
  | .ceilfDul reg2 reg3 => Sys2Proof.Machine.execCeilfDul reg2 reg3 s
  | .ceilfDuw reg2 reg3 => Sys2Proof.Machine.execCeilfDuw reg2 reg3 s
  | .ceilfDw reg2 reg3 => Sys2Proof.Machine.execCeilfDw reg2 reg3 s
  | .ceilfSl reg2 reg3 => Sys2Proof.Machine.execCeilfSl reg2 reg3 s
  | .ceilfSul reg2 reg3 => Sys2Proof.Machine.execCeilfSul reg2 reg3 s
  | .ceilfSuw reg2 reg3 => Sys2Proof.Machine.execCeilfSuw reg2 reg3 s
  | .ceilfSw reg2 reg3 => Sys2Proof.Machine.execCeilfSw reg2 reg3 s
  | .cmovfD fcbit reg1 reg2 reg3 => Sys2Proof.Machine.execCmovfD fcbit reg1 reg2 reg3 s
  | .cmovfS fcbit reg1 reg2 reg3 => Sys2Proof.Machine.execCmovfS fcbit reg1 reg2 reg3 s
  | .cmpfD fcond reg2 reg1 fcbit => Sys2Proof.Machine.execCmpfD fcond reg2 reg1 fcbit s
  | .cmpfS fcond reg2 reg1 fcbit => Sys2Proof.Machine.execCmpfS fcond reg2 reg1 fcbit s
  | .cvtfDl reg2 reg3 => Sys2Proof.Machine.execCvtfDl reg2 reg3 s
  | .cvtfDs reg2 reg3 => Sys2Proof.Machine.execCvtfDs reg2 reg3 s
  | .cvtfDul reg2 reg3 => Sys2Proof.Machine.execCvtfDul reg2 reg3 s
  | .cvtfDuw reg2 reg3 => Sys2Proof.Machine.execCvtfDuw reg2 reg3 s
  | .cvtfDw reg2 reg3 => Sys2Proof.Machine.execCvtfDw reg2 reg3 s
  | .cvtfLd reg2 reg3 => Sys2Proof.Machine.execCvtfLd reg2 reg3 s
  | .cvtfLs reg2 reg3 => Sys2Proof.Machine.execCvtfLs reg2 reg3 s
  | .cvtfSd reg2 reg3 => Sys2Proof.Machine.execCvtfSd reg2 reg3 s
  | .cvtfSl reg2 reg3 => Sys2Proof.Machine.execCvtfSl reg2 reg3 s
  | .cvtfSul reg2 reg3 => Sys2Proof.Machine.execCvtfSul reg2 reg3 s
  | .cvtfSuw reg2 reg3 => Sys2Proof.Machine.execCvtfSuw reg2 reg3 s
  | .cvtfSw reg2 reg3 => Sys2Proof.Machine.execCvtfSw reg2 reg3 s
  | .cvtfUld reg2 reg3 => Sys2Proof.Machine.execCvtfUld reg2 reg3 s
  | .cvtfUls reg2 reg3 => Sys2Proof.Machine.execCvtfUls reg2 reg3 s
  | .cvtfUwd reg2 reg3 => Sys2Proof.Machine.execCvtfUwd reg2 reg3 s
  | .cvtfUws reg2 reg3 => Sys2Proof.Machine.execCvtfUws reg2 reg3 s
  | .cvtfWd reg2 reg3 => Sys2Proof.Machine.execCvtfWd reg2 reg3 s
  | .cvtfWs reg2 reg3 => Sys2Proof.Machine.execCvtfWs reg2 reg3 s
  | .divfD reg1 reg2 reg3 => Sys2Proof.Machine.execDivfD reg1 reg2 reg3 s
  | .divfS reg1 reg2 reg3 => Sys2Proof.Machine.execDivfS reg1 reg2 reg3 s
  | .floorfDl reg2 reg3 => Sys2Proof.Machine.execFloorfDl reg2 reg3 s
  | .floorfDul reg2 reg3 => Sys2Proof.Machine.execFloorfDul reg2 reg3 s
  | .floorfDuw reg2 reg3 => Sys2Proof.Machine.execFloorfDuw reg2 reg3 s
  | .floorfDw reg2 reg3 => Sys2Proof.Machine.execFloorfDw reg2 reg3 s
  | .floorfSl reg2 reg3 => Sys2Proof.Machine.execFloorfSl reg2 reg3 s
  | .floorfSul reg2 reg3 => Sys2Proof.Machine.execFloorfSul reg2 reg3 s
  | .floorfSuw reg2 reg3 => Sys2Proof.Machine.execFloorfSuw reg2 reg3 s
  | .floorfSw reg2 reg3 => Sys2Proof.Machine.execFloorfSw reg2 reg3 s
  | .maddfS reg1 reg2 reg3 reg4 => Sys2Proof.Machine.execMaddfS reg1 reg2 reg3 reg4 s
  | .maxfD reg1 reg2 reg3 => Sys2Proof.Machine.execMaxfD reg1 reg2 reg3 s
  | .maxfS reg1 reg2 reg3 => Sys2Proof.Machine.execMaxfS reg1 reg2 reg3 s
  | .minfD reg1 reg2 reg3 => Sys2Proof.Machine.execMinfD reg1 reg2 reg3 s
  | .minfS reg1 reg2 reg3 => Sys2Proof.Machine.execMinfS reg1 reg2 reg3 s
  | .msubfS reg1 reg2 reg3 reg4 => Sys2Proof.Machine.execMsubfS reg1 reg2 reg3 reg4 s
  | .mulfD reg1 reg2 reg3 => Sys2Proof.Machine.execMulfD reg1 reg2 reg3 s
  | .mulfS reg1 reg2 reg3 => Sys2Proof.Machine.execMulfS reg1 reg2 reg3 s
  | .negfD reg2 reg3 => Sys2Proof.Machine.execNegfD reg2 reg3 s
  | .negfS reg2 reg3 => Sys2Proof.Machine.execNegfS reg2 reg3 s
  | .nmaddfS reg1 reg2 reg3 reg4 => Sys2Proof.Machine.execNmaddfS reg1 reg2 reg3 reg4 s
  | .nmsubfS reg1 reg2 reg3 reg4 => Sys2Proof.Machine.execNmsubfS reg1 reg2 reg3 reg4 s
  | .recipfD reg2 reg3 => Sys2Proof.Machine.execRecipfD reg2 reg3 s
  | .recipfS reg2 reg3 => Sys2Proof.Machine.execRecipfS reg2 reg3 s
  | .rsqrtfD reg2 reg3 => Sys2Proof.Machine.execRsqrtfD reg2 reg3 s
  | .rsqrtfS reg2 reg3 => Sys2Proof.Machine.execRsqrtfS reg2 reg3 s
  | .sqrtfD reg2 reg3 => Sys2Proof.Machine.execSqrtfD reg2 reg3 s
  | .sqrtfS reg2 reg3 => Sys2Proof.Machine.execSqrtfS reg2 reg3 s
  | .subfD reg1 reg2 reg3 => Sys2Proof.Machine.execSubfD reg1 reg2 reg3 s
  | .subfS reg1 reg2 reg3 => Sys2Proof.Machine.execSubfS reg1 reg2 reg3 s
  | .trfsr fcbit => Sys2Proof.Machine.execTrfsr fcbit s
  | .trncfDl reg2 reg3 => Sys2Proof.Machine.execTrncfDl reg2 reg3 s
  | .trncfDul reg2 reg3 => Sys2Proof.Machine.execTrncfDul reg2 reg3 s
  | .trncfDuw reg2 reg3 => Sys2Proof.Machine.execTrncfDuw reg2 reg3 s
  | .trncfDw reg2 reg3 => Sys2Proof.Machine.execTrncfDw reg2 reg3 s
  | .trncfSl reg2 reg3 => Sys2Proof.Machine.execTrncfSl reg2 reg3 s
  | .trncfSul reg2 reg3 => Sys2Proof.Machine.execTrncfSul reg2 reg3 s
  | .trncfSuw reg2 reg3 => Sys2Proof.Machine.execTrncfSuw reg2 reg3 s
  | .trncfSw reg2 reg3 => Sys2Proof.Machine.execTrncfSw reg2 reg3 s

end Sys2Proof.Machine
end

