-- ==== Sys2Proof/Machine/Step.lean ====
section
/-! DEFINITION. One step of the machine. -/
namespace Sys2Proof.Machine

/-- One instruction boundary and what follows it (R307, R1005): a request, or one instruction. -/
def step (s : State) : Host.Outcome State Fault Refusal := s.stepWith exec

/-- The state with an instruction's bytes stored at the program counter: the `nbits` bits of `w`, the others up to the
longest instruction 0. A program comes to run from reset by being loaded there from outside (log entry 8). -/
def State.withFetchWord (s : State) (nbits w : Nat) : State :=
  s.placeBytes 0 (tableBytes (w % 2 ^ nbits) 8)

end Sys2Proof.Machine
end

