-- ==== Sys2Proof/Safety.lean ====
section
/-! DEFINITION. The terms that claims use: what stays the same, where an access completes, which states are legal, and what
a safe run is. -/
namespace Sys2Proof.Machine

/-! ### Runs -/

/-- The states that some number of steps gives. -/
inductive Reaches : State → State → Prop where
  | here (s : State) : Reaches s s
  | step {s t u : State} : Machine.step s = .next t → Reaches t u → Reaches s u

/-- A safe run: no state it reaches stops. -/
def SafeFrom (s : State) : Prop := ∀ t, Reaches s t → ∃ u, Machine.step t = .next u

/-! ### What stays the same -/

/-- Every register reads the same, but for those listed. -/
def SameRegsBut (ds : List Reg) (s t : State) : Prop := ∀ r, r ∉ ds → t.reg r = s.reg r

/-- Every bit of PSW outside the mask is the same. -/
def SamePswBut (mask : Word) (s t : State) : Prop := t.psw &&& ~~~mask = s.psw &&& ~~~mask

/-- Every byte of memory reads the same, but for the `n` bytes from `a` on. -/
def SameMemBut (a : Word) (n : Nat) (s t : State) : Prop :=
  ∀ b : Word, (∀ k < n, b ≠ a + BitVec.ofNat 32 k) → t.mem.read b.toNat = s.mem.read b.toNat

/-- Every byte of memory reads the same. -/
def SameMem (s t : State) : Prop := ∀ b : Word, t.mem.read b.toNat = s.mem.read b.toNat

/-- The registers of the main and handler switching banks, of the protection banks and of the two memory-mapped units are
the same. -/
def SameSystem (s t : State) : Prop := t.main = s.main ∧ t.prot = s.prot ∧ t.ppu = s.ppu ∧ t.tsu = s.tsu

/-- What no instruction but HALT and the returns touches, and the product parameters. -/
def SameRest (s t : State) : Prop :=
  t.halted = s.halted ∧ t.inputs = s.inputs ∧ t.stopAfter = s.stopAfter ∧ t.reports = s.reports ∧ t.cfg = s.cfg

/-- Only the listed registers, the masked bits of PSW and the program counter may differ. -/
def OnlyRegs (ds : List Reg) (mask : Word) (s t : State) : Prop :=
  SameRegsBut ds s t ∧ SamePswBut mask s t ∧ SameMem s t ∧ SameSystem s t ∧ t.fpu = s.fpu ∧ SameRest s t ∧
    t.free = s.free

/-- As `OnlyRegs`, for an instruction that uses free values: how many have been used may differ too. -/
def OnlyRegsFree (ds : List Reg) (mask : Word) (s t : State) : Prop :=
  SameRegsBut ds s t ∧ SamePswBut mask s t ∧ SameMem s t ∧ SameSystem s t ∧ t.fpu = s.fpu ∧ SameRest s t

/-- Only the `n` bytes from `a` on, the listed registers, the masked bits of PSW and the program counter may differ. -/
def OnlyMem (a : Word) (n : Nat) (ds : List Reg) (mask : Word) (s t : State) : Prop :=
  SameRegsBut ds s t ∧ SamePswBut mask s t ∧ SameMemBut a n s t ∧ SameSystem s t ∧ t.fpu = s.fpu ∧ SameRest s t ∧
    t.free = s.free

/-- The four arithmetic flags of PSW. -/
def flagsCOSZ : Word := 0xF
/-- OV, S and Z. -/
def flagsOSZ : Word := 0x7
/-- SAT, CY, OV, S and Z. -/
def flagsAll : Word := 0x1F

/-- A register holds a value, unless it is r0, which reads 0 (R31). -/
def Holds (t : State) (r : Reg) (v : Word) : Prop := t.reg r = if r = 0 then 0 else v

/-! ### Where an access completes -/

/-- A data access of `n` bytes at `a` is permitted, is not blocked, and lies in memory. -/
def State.reaches (s : State) (a : Word) (n : Nat) (write sp : Bool) : Prop :=
  s.permits a n write sp = true ∧ (s.judge a n write).1 = true ∧
    ∀ k < n, memKind s.cfg (a + BitVec.ofNat 32 k) = .ram

/-- The `n` bytes of memory at `a` as a number, the lowest address the least significant (R225). -/
def State.bytesAt (s : State) (a : Word) : Nat → Word
  | 0 => 0
  | n + 1 => s.bytesAt (a + 1) n <<< 8 ||| (s.mem.read a.toNat).setWidth 32

/-! ### Legal states -/

/-- Bits of PSW that do not exist are 0 in PSW and in each of its copies (R56, D4). -/
def State.PswLegal (s : State) : Prop :=
  s.psw &&& ~~~pswMask = 0 ∧ s.main.eipsw &&& ~~~pswMask = 0 ∧ s.main.fepsw &&& ~~~pswMask = 0 ∧
    s.main.ctpsw &&& ~~~pswMask = 0

/-- While protection is disabled the protection bits of PSW are 0, and NPV is 0 while the automatic transition is disabled
(R852, R853). -/
def State.LevelLegal (s : State) : Prop :=
  (s.mpe = false → s.psw &&& protMask = 0) ∧ (s.aue = false → s.fNPV = false)

/-- No counter operates while protection is disabled (R852). -/
def State.CountersLegal (s : State) : Prop :=
  s.mpe = false → ∀ c ∈ s.tsu.counters.toList, c.act = false

/-- The program counter is even (R33). -/
def State.PcLegal (s : State) : Prop := s.pc.getLsbD 0 = false

/-! ### Floating point -/

/-- The FPU is there, no FPI exception is outstanding, and FPSR.FS = 1: all that a conversion in a fixed direction needs
(R654, R655, R663, R700). -/
def State.fpDirected (s : State) : Prop :=
  s.cfg.hasFpu = true ∧ s.fpInvalid = false ∧ s.fpu.fpsr.getLsbD 17 = true

/-- As `fpDirected`, and FPSR.RM = 00, the mode that every result is given for (R655). -/
def State.fpReady (s : State) : Prop := s.fpDirected ∧ s.fpu.fpsr.extractLsb' 18 2 = 0

/-- An instruction completed with the set `det`: the preservation bits, and nothing else but the listed registers, the
program counter and the number of free values used (R658). -/
def FpDone (ds : List Reg) (det : Det) (s t : State) : Prop :=
  SameRegsBut ds s t ∧ t.psw = s.psw ∧ SameMem s t ∧ SameSystem s t ∧ SameRest s t ∧
    t.fpu = { s.fpu with fpsr := s.fpu.fpsr ||| (det.setWidth 5).setWidth 32 } ∧ t.pc = pcValue s.cfg (s.pc + 4)

/-- A value is a number: a zero, or finite with a magnitude that is not zero. -/
def Fp.Number : Fp → Prop
  | .zero _ => True
  | .fin _ m _ => m ≠ 0
  | _ => False

/-- The rational number that a finite value stands for. -/
def Fp.toRat : Fp → Rat
  | .fin neg m e => (if neg then -1 else 1) * m * (2 : Rat) ^ e
  | _ => 0

/-! ### Shapes of what an instruction does -/

/-- The instruction answers a next state of which `P` holds. -/
def Gives (i : Instr) (s : State) (P : State → Prop) : Prop := ∃ t, exec i s = .next t ∧ P t

/-- The program counter stands after an instruction of `n` bytes (R34). -/
def Falls (n : Nat) (s t : State) : Prop := t.pc = pcValue s.cfg (s.pc + BitVec.ofNat 32 n)

/-- A number that a signed word holds. -/
abbrev Fits (n : Int) : Prop := -2 ^ 31 ≤ n ∧ n < 2 ^ 31

/-- The number nearest to `n` that a signed word holds (R9). -/
def clamp (n : Int) : Int := max (-2 ^ 31) (min n (2 ^ 31 - 1))

/-- CY and OV as given, S and Z those of `r`. -/
def FlagsAre (t : State) (cy ov : Bool) (r : Word) : Prop :=
  t.fCY = cy ∧ t.fOV = ov ∧ t.fS = decide (r.toInt < 0) ∧ t.fZ = decide (r = 0)

/-- A value goes to a register, nothing else but the program counter changes. -/
def Moves (i : Instr) (s : State) (dst : Reg) (v : Word) (len : Nat) : Prop :=
  Gives i s fun t => Holds t dst v ∧ Falls len s t ∧ OnlyRegs [dst] 0 s t

/-- A value goes to a register, with the four flags. -/
def MovesFlagged (i : Instr) (s : State) (dst : Reg) (v : Word) (cy ov : Bool) (len : Nat) : Prop :=
  Gives i s fun t => Holds t dst v ∧ FlagsAre t cy ov v ∧ Falls len s t ∧ OnlyRegs [dst] flagsCOSZ s t

/-- The sum `a + b + c` goes to a register: CY is the carry out of bit 31, OV says that the signed sum is out of range
(R8, R419). -/
def Adds (i : Instr) (s : State) (dst : Reg) (a b : Word) (c : Bool) (len : Nat) : Prop :=
  MovesFlagged i s dst (BitVec.ofInt 32 (a.toInt + b.toInt + c.toNat))
    (decide (2 ^ 32 ≤ a.toNat + b.toNat + c.toNat)) (decide ¬Fits (a.toInt + b.toInt + c.toNat)) len

/-- The difference `a - b - c` goes to a register: CY is the borrow, OV says that the signed difference is out of range
(R8, R419). -/
def Subtracts (i : Instr) (s : State) (dst : Reg) (a b : Word) (c : Bool) (len : Nat) : Prop :=
  MovesFlagged i s dst (BitVec.ofInt 32 (a.toInt - b.toInt - c.toNat))
    (decide (a.toNat < b.toNat + c.toNat)) (decide ¬Fits (a.toInt - b.toInt - c.toNat)) len

/-- The flags of the difference `a - b`, and nothing else (R394). -/
def Compares (i : Instr) (s : State) (a b : Word) (len : Nat) : Prop :=
  Gives i s fun t =>
    FlagsAre t (decide (a.toNat < b.toNat)) (decide ¬Fits (a.toInt - b.toInt)) (BitVec.ofInt 32 (a.toInt - b.toInt)) ∧
      Falls len s t ∧ OnlyRegs [] flagsCOSZ s t

/-- A sum or difference goes to a register, saturated: `n` is the exact signed result, `cy` its carry or borrow (R447,
R54). -/
def Saturates (i : Instr) (s : State) (dst : Reg) (n : Int) (cy : Bool) (len : Nat) : Prop :=
  Gives i s fun t =>
    Holds t dst (BitVec.ofInt 32 (clamp n)) ∧ FlagsAre t cy (decide ¬Fits n) (BitVec.ofInt 32 (clamp n)) ∧
      t.fSAT = (s.fSAT || decide ¬Fits n) ∧ Falls len s t ∧ OnlyRegs [dst] flagsAll s t

/-- A logical result goes to a register, with OV = 0, S and Z (R459). -/
def Combines (i : Instr) (s : State) (dst : Reg) (r : Word) (len : Nat) : Prop :=
  Gives i s fun t => Holds t dst r ∧ FlagsAre t s.fCY false r ∧ Falls len s t ∧ OnlyRegs [dst] flagsOSZ s t

/-- A word goes to a register, its byte `k` being byte `perm k` of `a`; OV = 0, S is its bit 31 (R480, R481, R499, R500). -/
def Rearranges (i : Instr) (s : State) (dst : Reg) (a : Word) (perm : Nat → Nat) (cy z : Word → Bool) : Prop :=
  Gives i s fun t => ∃ r : Word, (∀ k < 4, byteOf r k = byteOf a (perm k)) ∧ Holds t dst r ∧ t.fCY = cy r ∧
    t.fOV = false ∧ t.fS = r.getLsbD 31 ∧ t.fZ = z r ∧ Falls 4 s t ∧ OnlyRegs [dst] flagsCOSZ s t

/-- A bit search: `hit k` says that the bit examined in position `k` is the one searched for (R528). -/
def Searches (i : Instr) (s : State) (dst : Reg) (hit : Nat → Bool) : Prop :=
  Gives i s fun t =>
    ((∀ k < 32, hit k = false) → Holds t dst 0 ∧ t.fCY = false ∧ t.fZ = true) ∧
      (∀ k < 32, hit k = true → (∀ j < k, hit j = false) →
        Holds t dst (BitVec.ofNat 32 (k + 1)) ∧ t.fCY = (!s.cfg.schCyOnlyAtLast || decide (k = 31)) ∧ t.fZ = false) ∧
      t.fOV = false ∧ t.fS = false ∧ Falls 4 s t ∧ OnlyRegs [dst] flagsCOSZ s t

/-- The quotient goes to one register and the remainder, if wanted, to another (R529). -/
def QuotientIn (t : State) (reg2 : Reg) (reg3 : Option Reg) (q m : Word) : Prop :=
  match reg3 with
  | none => Holds t reg2 q
  | some r => Holds t reg2 q ∧ Holds t r m

/-- A division by a number that is not zero, into two different registers: the quotient is truncated toward zero, the
remainder has the sign of the dividend; OV says that the quotient is out of range (R529, D53). -/
def Divides (i : Instr) (s : State) (signed : Bool) (n d : Int) (reg2 : Reg) (reg3 : Option Reg) (len : Nat) : Prop :=
  d ≠ 0 → reg3 ≠ some reg2 → Gives i s fun t => ∃ q m : Int,
    n = q * d + m ∧ |m| < |d| ∧ (0 < m → 0 < n) ∧ (m < 0 → n < 0) ∧
      QuotientIn t reg2 reg3 (BitVec.ofInt 32 q) (BitVec.ofInt 32 m) ∧
      FlagsAre t s.fCY (signed && decide ¬Fits q) (BitVec.ofInt 32 q) ∧
      Falls len s t ∧ OnlyRegs (reg2 :: reg3.toList) flagsOSZ s t

/-- A division by zero sets OV, keeps CY, and leaves the results, S and Z open (R529, U21). -/
def DividesByZero (i : Instr) (s : State) (d : Int) (reg2 : Reg) (reg3 : Option Reg) (len : Nat) : Prop :=
  d = 0 → Gives i s fun t => t.fOV = true ∧ Falls len s t ∧ OnlyRegsFree (reg2 :: reg3.toList) flagsOSZ s t

/-- A division into one register leaves the remainder there; OV says that the quotient is out of range, S and Z are open
(R529, U22). -/
def DividesIntoOne (i : Instr) (s : State) (signed : Bool) (n d : Int) (reg2 reg3 : Reg) : Prop :=
  d ≠ 0 → reg3 = reg2 → Gives i s fun t => ∃ q m : Int, n = q * d + m ∧ |m| < |d| ∧ (0 < m → 0 < n) ∧ (m < 0 → n < 0) ∧
    Holds t reg2 (BitVec.ofInt 32 m) ∧ t.fOV = (signed && decide ¬Fits q) ∧ Falls 4 s t ∧
    OnlyRegsFree [reg2] flagsOSZ s t

/-! ### Memory accesses -/

/-- A datum goes from memory to a register. -/
def Loads (i : Instr) (s : State) (a : Word) (n : Nat) (sp : Bool) (ext : Word → Word) (dst : Reg) (len : Nat) : Prop :=
  s.reaches a n false sp → Moves i s dst (ext (s.bytesAt a n)) len

/-- The low `n` bytes of a value go to memory, the least significant to the lowest address (R225). -/
def Stores (i : Instr) (s : State) (a : Word) (n : Nat) (sp : Bool) (v : Word) (len : Nat) : Prop :=
  s.reaches a n true sp → Gives i s fun t =>
    (∀ k < n, t.mem.read (a + BitVec.ofNat 32 k).toNat = byteOf v k) ∧ Falls len s t ∧ OnlyMem a n [] 0 s t

/-- Z becomes the negation of bit `n` of a byte, and `f` of the byte is written back (R558). -/
def ModifiesBit (i : Instr) (s : State) (a : Word) (sp : Bool) (n : Nat) (f : Byte → Byte) : Prop :=
  s.reaches a 1 false sp → s.reaches a 1 true sp → Gives i s fun t =>
    t.fZ = !(s.mem.read a.toNat).getLsbD n ∧ t.mem.read a.toNat = f (s.mem.read a.toNat) ∧ Falls 4 s t ∧
      OnlyMem a 1 [] 1 s t

/-- Z becomes the negation of bit `n` of a byte (R558). -/
def TestsBit (i : Instr) (s : State) (a : Word) (sp : Bool) (n : Nat) : Prop :=
  s.reaches a 1 false sp → Gives i s fun t =>
    t.fZ = !(s.mem.read a.toNat).getLsbD n ∧ Falls 4 s t ∧ OnlyRegs [] 1 s t

/-- An access that is not permitted takes the MDP exception from the state before the instruction; the cause tells of the
direction, the stack pointer and misalignment, as the table of R883 has it (R882). -/
def Traps (i : Instr) (s : State) (a : Word) (n : Nat) (write sp : Bool) : Prop :=
  s.permits a n write sp = false → exec i s = .next (s.raiseMdp a
    (if a.toNat % n = 0 then if write then if sp then 0x18 else 0x08 else if sp then 0x14 else 0x04
     else if write then if sp then 0x58 else 0x48 else if sp then 0x54 else 0x44))

/-- As `Traps`, for a read-modify-write, which needs both permissions (R878, R883). -/
def TrapsRmw (i : Instr) (s : State) (a : Word) (n : Nat) (sp : Bool) : Prop :=
  (s.permits a n false sp && s.permits a n true sp) = false →
    exec i s = .next (s.raiseMdp a (if sp then 0x34 else 0x24))

/-! ### Memory protection -/

/-- The area exists and the `n` bytes from `a` on lie in it: bit 0 of its lower register enables it, bit 2 makes the upper
one a mask; the low four bits of both are granted (R871, R875, R877). -/
def Area.Holds (p : Area) (a n : Nat) : Prop :=
  let low := p.lower &&& 0xFFFFFFF0#32
  let high := p.upper ||| 0xF#32
  p.lower.getLsbD 0 = true ∧
    (if p.lower.getLsbD 2 then (low &&& ~~~high).toNat ≤ a ∧ a + n ≤ (low ||| high).toNat + 1
     else low.toNat ≤ a ∧ a + n ≤ high.toNat + 1)

/-- Some instruction area holds the bytes and has `right` set in its upper register (R131, R874). -/
def State.InIpa (s : State) (a n : Nat) (right : Nat) : Prop :=
  ∃ k : Fin 5, (s.prot.ipa.get k).Holds a n ∧ (s.prot.ipa.get k).upper.getLsbD right = true

/-- Some data area holds the bytes and has `right` set in its upper register (R133, R874). -/
def State.InDpa (s : State) (a n : Nat) (right : Nat) : Prop :=
  ∃ k : Fin 6, (s.prot.dpa.get k).Holds a n ∧ (s.prot.dpa.get k).upper.getLsbD right = true

/-- The bytes can be read: bit 1 of either kind of area (R873). -/
def State.CanRead (s : State) (a n : Nat) : Prop := s.InIpa a n 1 ∨ s.InDpa a n 1

/-- The bytes can be reached through sp: DPA0, or any other area while MPM.SPS = 0 (R134, R873, R876). -/
def State.CanStack (s : State) (a n : Nat) : Prop :=
  (s.prot.dpa.get 0).Holds a n ∨
    (s.prot.mpm.getLsbD s.cfg.spsBit = false ∧
      ((∃ k : Fin 5, (s.prot.ipa.get k).Holds a n) ∨ ∃ k : Fin 6, (s.prot.dpa.get k).Holds a n))

/-! ### Accesses that are not performed (R892 to R895) -/

/-- Bit `k` of the registers of set `n` forbids the access: a special device always, an OS device in the NT state, a general
device in the NT state if PPV is set, and for a read only if PPT is too (R891, R892). -/
def State.Forbids (s : State) (n : Fin 9) (k : Nat) (write : Bool) : Prop :=
  (s.ppu.pps.get n).getLsbD k = true ∨
    (s.fPP = true ∧ ((s.ppu.ppp.get n).getLsbD k = true ∨
      ((s.ppu.ppv.get n).getLsbD k = true ∧ ((s.ppu.ppt.get n).getLsbD k = true ∨ write = true))))

/-- A PPI exception is reported in the NT state: no access is performed (R895). -/
def State.Invalidates (s : State) : Prop := s.fPP = true ∧ s.ppu.ppec.getLsbD 0 = true

/-- Memory protection lets the access through, and it is not performed (R890, R892, R895). -/
def State.Stopped (s : State) (a : Word) (n : Nat) (write sp : Bool) : Prop :=
  s.permits a n write sp = true ∧
    (s.Invalidates ∨ match ppcArea a with | none => False | some (m, k) => s.Forbids m k write)

/-- The cause that a violation records: the type of the device in the NT state, SP in the T state, with the size, the
direction and the valid bit (R142, R145, R893, R894). -/
def State.violationCause (s : State) (m : Fin 9) (k n : Nat) (write : Bool) : Word :=
  (if (s.ppu.pps.get m).getLsbD k then 0x8000#32 else if (s.ppu.ppp.get m).getLsbD k then 0x4000
    else if (s.ppu.ppt.get m).getLsbD k then 0x2000 else 0x1000) |||
    (if n = 4 then 0x400#32 else if n = 2 then 0x200 else 0x100) ||| (if write then 0x10#32 else 0x20) ||| 1

/-- The peripheral protection unit after an access of `n` bytes at `a` was not performed: as it was where it is
invalidated, else with the first violation of its state recorded, and in the NT state PPI reported unless it is masked
(R893 to R895). -/
def State.unitAfter (s : State) (a : Word) (n : Nat) (write : Bool) : PpuRegs :=
  match s.fPP && s.ppu.ppec.getLsbD 0, ppcArea a with
  | false, some (m, k) =>
    let c := s.violationCause m k n write
    if s.fPP then
      { s.ppu with
        vpnecr := if s.ppu.vpnecr.getLsbD 0 then s.ppu.vpnecr else c
        vpnadr := if s.ppu.vpnecr.getLsbD 0 then s.ppu.vpnadr else a
        vpntid := if s.ppu.vpnecr.getLsbD 0 then s.ppu.vpntid else s.prot.tid
        ppec := if s.ppu.ppm.getLsbD 0 then s.ppu.ppec else 1 }
    else
      { s.ppu with
        vptecr := if s.ppu.vptecr.getLsbD 0 then s.ppu.vptecr else c
        vptadr := if s.ppu.vptecr.getLsbD 0 then s.ppu.vptadr else a
        vpttid := if s.ppu.vptecr.getLsbD 0 then s.ppu.vpttid else s.prot.tid }
  | _, _ => s.ppu

/-- Memory is as it was, and of everything else only the listed registers, the masked bits of PSW, the number of free values
used, the program counter and the peripheral protection unit, which becomes `p`, may differ. -/
def OnlyUnit (p : PpuRegs) (ds : List Reg) (mask : Word) (s t : State) : Prop :=
  t.ppu = p ∧ SameRegsBut ds s t ∧ SamePswBut mask s t ∧ t.mem = s.mem ∧ t.main = s.main ∧ t.prot = s.prot ∧
    t.tsu = s.tsu ∧ t.fpu = s.fpu ∧ SameRest s t

/-- A store that is not performed: memory stays, the unit records it, the program goes on (R893 to R895). -/
def StoreStops (i : Instr) (s : State) (a : Word) (n : Nat) (sp : Bool) (len : Nat) : Prop :=
  s.Stopped a n true sp → Gives i s fun t => Falls len s t ∧ OnlyUnit (s.unitAfter a n true) [] 0 s t

/-- A load that is not performed: its register takes some value, the unit records it, the program goes on (R893 to R895). -/
def LoadStops (i : Instr) (s : State) (a : Word) (n : Nat) (sp : Bool) (dst : Reg) (mask : Word) (len : Nat) : Prop :=
  s.Stopped a n false sp → Gives i s fun t => Falls len s t ∧ OnlyUnit (s.unitAfter a n false) [dst] mask s t

/-- A bit instruction whose read is not performed changes neither memory nor Z; one whose read reaches memory and whose write
is not performed tells the bit in Z and changes no memory (R558, R893 to R895). -/
def ModifyStops (i : Instr) (s : State) (a : Word) (sp : Bool) (n : Nat) : Prop :=
  s.permits a 1 true sp = true →
    (s.Stopped a 1 false sp → Gives i s fun t => Falls 4 s t ∧ OnlyUnit (s.unitAfter a 1 false) [] 0 s t) ∧
    (s.reaches a 1 false sp → s.Stopped a 1 true sp → Gives i s fun t =>
      t.fZ = !(s.mem.read a.toNat).getLsbD n ∧ Falls 4 s t ∧ OnlyUnit (s.unitAfter a 1 true) [] 1 s t)

/-! ### Exceptions and returns -/

/-- The bits of PSW that can be 1: none that does not exist (R56), no protection bit while MPE = 0 (R852), not NPV while
AUE = 0 (R853). -/
def State.pswAllowed (s : State) : Word :=
  pswMask &&& (if s.mpe then 0xFFFFFFFF#32 else ~~~protMask) &&& (if s.aue then 0xFFFFFFFF#32 else ~~~bitAt 18)

/-- PSW at the handler: the bits of `set` are set, EP is cleared for an interrupt, and the protection bits are cleared if
AUE = 1 or the exception is a protection exception (R1018, R1036). -/
def State.pswAtHandler (s : State) (set : Word) (interrupt protection : Bool) : Word :=
  ((s.psw ||| set) &&& (if interrupt then ~~~0x40#32 else 0xFFFFFFFF#32) &&&
    (if s.aue || protection then ~~~protMask else 0xFFFFFFFF#32)) &&& s.pswAllowed

/-- The main registers after an EI level exception (R1015): EIPC, EIPSW, EIIC and the low half of ECR. -/
def State.mainAfterEi (s : State) (ret code : Word) : MainRegs :=
  { s.main with eipc := limitAddr s.cfg ret, eipsw := s.psw, eiic := code
                ecr := s.main.ecr &&& 0xFFFF0000#32 ||| code &&& 0xFFFF#32 }

/-- The main registers after an FE level exception (R1017): FEPC, FEPSW, FEIC and the high half of ECR. -/
def State.mainAfterFe (s : State) (ret code : Word) : MainRegs :=
  { s.main with fepc := limitAddr s.cfg ret, fepsw := s.psw, feic := code
                ecr := s.main.ecr &&& 0xFFFF#32 ||| code <<< 16 }

/-- The general registers, memory, the FPU, the peripheral protection unit and the rest stay; the counters may change. -/
def KeepsData (s t : State) : Prop :=
  SameRegsBut [] s t ∧ SameMem s t ∧ t.ppu = s.ppu ∧ t.fpu = s.fpu ∧ SameRest s t

/-- An EI level software exception is taken. -/
def EntersEi (i : Instr) (s : State) (ret code offset : Word) : Prop :=
  Gives i s fun t => t.main = s.mainAfterEi ret code ∧ t.psw = s.pswAtHandler 0x60 false false ∧
    t.pc = pcValue s.cfg (s.main.ehBase + offset) ∧ t.prot = s.prot ∧ KeepsData s t

/-- An FE level software exception is taken. -/
def EntersFe (i : Instr) (s : State) (ret code offset : Word) : Prop :=
  Gives i s fun t => t.main = s.mainAfterFe ret code ∧ t.psw = s.pswAtHandler 0xE0 false false ∧
    t.pc = pcValue s.cfg (s.main.ehBase + offset) ∧ t.prot = s.prot ∧ KeepsData s t

/-- A return: the program counter and PSW come from a pair of registers; the end of the handler is reported if asked
(R605, R1023, R1024). -/
def Returns (i : Instr) (s : State) (pc psw : Word) (report : Bool) : Prop :=
  Gives i s fun t => t.pc = pcValue s.cfg pc ∧ t.psw = psw &&& s.pswAllowed ∧
    t.reports = (if report then .endOfHandler :: s.reports else s.reports) ∧
    SameRegsBut [] s t ∧ SameMem s t ∧ t.main = s.main ∧ t.prot = s.prot ∧ t.ppu = s.ppu ∧ t.fpu = s.fpu ∧
    t.halted = s.halted ∧ t.inputs = s.inputs ∧ t.cfg = s.cfg

/-! ### Register lists -/

/-- The address of PREPARE's store number `k` (R599). -/
def State.pushAddress (s : State) (k : Nat) : Word := wordAligned (s.reg spReg - 4 * BitVec.ofNat 32 (k + 1))

/-- The address of DISPOSE's load number `k` (R587). -/
def State.popAddress (s : State) (imm5 : BitVec 5) (k : Nat) : Word :=
  wordAligned (s.reg spReg + wordsOf imm5 + 4 * BitVec.ofNat 32 k)

/-- PREPARE: register number `k` of the list is stored at its address, sp moves below the words and `imm5` more, and the
registers of `more` are written (R599, R600). -/
def Prepares (i : Instr) (s : State) (list : BitVec 12) (imm5 : BitVec 5) (more : List (Reg × Word)) (len : Nat) : Prop :=
  s.stopAfter = none → (∀ k < (listRegs list).length, s.reaches (s.pushAddress k) 4 true true) → Gives i s fun t =>
    let n := (listRegs list).length
    (∀ k (h : k < n), t.bytesAt (s.pushAddress k) 4 = s.reg ((listRegs list)[k])) ∧
      t.reg spReg = s.reg spReg - 4 * BitVec.ofNat 32 n - wordsOf imm5 ∧ (∀ p ∈ more, t.reg p.1 = p.2) ∧ Falls len s t ∧
      OnlyMem (wordAligned (s.reg spReg - 4 * BitVec.ofNat 32 n)) (4 * n) (spReg :: more.map Prod.fst) 0 s t

/-- The MDP exception of one access is taken: the cause, TID and the address are recorded and the FE level entered with the
protection bits clear, returning to the instruction (R882, R883). -/
def EntersMdp (s t : State) (a cause : Word) : Prop :=
  t.prot = { s.prot with vmecr := cause, vmtid := s.prot.tid, vmadr := a } ∧ t.main = s.mainAfterFe s.pc 0x431 ∧
    t.psw = s.pswAtHandler 0xE0 false true ∧ t.pc = pcValue s.cfg (s.main.ehBase + 0x30) ∧ t.ppu = s.ppu ∧
    t.fpu = s.fpu ∧ SameRest s t

/-- PREPARE whose store number `k` is the first that memory protection does not permit: the stores before it are done, no
register changes, and MDP is taken (R879). -/
def PrepareTraps (i : Instr) (s : State) (list : BitVec 12) (k : Nat) : Prop :=
  s.stopAfter = none → k < (listRegs list).length → (∀ j < k, s.reaches (s.pushAddress j) 4 true true) →
    s.permits (s.pushAddress k) 4 true true = false → Gives i s fun t =>
      (∀ j (h : j < (listRegs list).length), j < k → t.bytesAt (s.pushAddress j) 4 = s.reg ((listRegs list)[j])) ∧
        SameRegsBut [] s t ∧ SameMemBut (wordAligned (s.reg spReg - 4 * BitVec.ofNat 32 k)) (4 * k) s t ∧
        EntersMdp s t (s.pushAddress k) 0x18

/-- DISPOSE whose load number `k` is the first that memory protection does not permit: the registers before it are loaded,
no other register changes, sp among them, and MDP is taken (R879). -/
def DisposeTraps (i : Instr) (s : State) (list : BitVec 12) (imm5 : BitVec 5) (k : Nat) : Prop :=
  s.stopAfter = none → k < (listRegs list).length → (∀ j < k, s.reaches (s.popAddress imm5 j) 4 false true) →
    s.permits (s.popAddress imm5 k) 4 false true = false → Gives i s fun t =>
      (∀ j (h : j < (listRegs list).reverse.length), j < k →
          t.reg ((listRegs list).reverse[j]) = s.bytesAt (s.popAddress imm5 j) 4) ∧
        SameRegsBut ((listRegs list).reverse.take k) s t ∧ SameMem s t ∧ EntersMdp s t (s.popAddress imm5 k) 0x14

/-- DISPOSE: the registers of the list are loaded, the highest first, and sp moves above the words (R587). -/
def Disposes (i : Instr) (s : State) (list : BitVec 12) (imm5 : BitVec 5) (next : State → Word) : Prop :=
  s.stopAfter = none → (∀ k < (listRegs list).length, s.reaches (s.popAddress imm5 k) 4 false true) → Gives i s fun t =>
    let n := (listRegs list).length
    (∀ k (h : k < (listRegs list).reverse.length),
        t.reg ((listRegs list).reverse[k]) = s.bytesAt (s.popAddress imm5 k) 4) ∧
      t.reg spReg = s.reg spReg + wordsOf imm5 + 4 * BitVec.ofNat 32 n ∧ t.pc = pcValue s.cfg (next t) ∧
      OnlyRegs (spReg :: listRegs list) 0 s t

/-! ### Kinds of floating-point data (R650), read from the fields of a pattern -/

/-- The kinds of data that Table 3-1 tells apart. -/
inductive FpKind where
  | nan (quiet : Bool)
  | inf (neg : Bool)
  | zero (neg : Bool)
  | denormal (neg : Bool)
  | normal (neg : Bool)
  deriving DecidableEq, Repr

/-- It is a NaN. -/
def FpKind.isNan : FpKind → Bool
  | .nan _ => true
  | _ => false
/-- It is an infinity. -/
def FpKind.isInf : FpKind → Bool
  | .inf _ => true
  | _ => false
/-- It is a denormalized number. -/
def FpKind.isDenormal : FpKind → Bool
  | .denormal _ => true
  | _ => false
/-- It is a zero, or a denormalized number, which is handled as one (R657). -/
def FpKind.isZero : FpKind → Bool
  | .zero _ => true
  | .denormal _ => true
  | _ => false
/-- The sign of what is no NaN. -/
def FpKind.negative : FpKind → Bool
  | .nan _ => false
  | .inf s => s
  | .zero s => s
  | .denormal s => s
  | .normal s => s

/-- The kind of a pattern: by its exponent, its fraction and the most significant bit of its fraction. -/
def Fmt.kind (f : Fmt) (w : DWord) : FpKind :=
  let neg := w.toNat.testBit (f.frac + f.expBits)
  let exponent := w.toNat / 2 ^ f.frac % 2 ^ f.expBits
  let fraction := w.toNat % 2 ^ f.frac
  if exponent = 2 ^ f.expBits - 1 then if fraction = 0 then .inf neg else .nan (decide (2 ^ (f.frac - 1) ≤ fraction))
  else if exponent = 0 then if fraction = 0 then .zero neg else .denormal neg
  else .normal neg

/-- The pattern fits the width of the format. -/
def Fmt.Fits (f : Fmt) (w : DWord) : Prop := w.toNat < 2 ^ (f.frac + f.expBits + 1)
/-- The pattern of the sign bit alone. -/
def Fmt.signBit (f : Fmt) : DWord := BitVec.ofNat 64 (2 ^ (f.frac + f.expBits))
/-- The pattern of a zero. -/
def Fmt.zeroOf (f : Fmt) (neg : Bool) : DWord := if neg then f.signBit else 0
/-- The pattern of an infinity. -/
def Fmt.infOf (f : Fmt) (neg : Bool) : DWord := BitVec.ofNat 64 ((2 ^ f.expBits - 1) * 2 ^ f.frac) ||| f.zeroOf neg
/-- The pattern with a denormalized number replaced by the zero of its sign (R657, D57). -/
def Fmt.flush (f : Fmt) (w : DWord) : DWord := if (f.kind w).isDenormal then f.zeroOf (f.kind w).negative else w

/-! ### Floating-point instructions -/

/-- The value of an outcome goes to a register, if no exception it detects is enabled. -/
def FpGivesReg (i : Instr) (s : State) (o : FpOut) (r : Reg) : Prop :=
  s.fpEnabled o.det = false → Gives i s fun t => Holds t r (o.value.setWidth 32) ∧ FpDone [r] o.det s t

/-- The value of an outcome goes to a register pair, if no exception it detects is enabled. -/
def FpGivesPair (i : Instr) (s : State) (o : FpOut) (p : Pair) : Prop :=
  s.fpEnabled o.det = false → Gives i s fun t =>
    Holds t p.lo (o.value.extractLsb' 0 32) ∧ Holds t p.hi (o.value.extractLsb' 32 32) ∧ FpDone [p.lo, p.hi] o.det s t

/-- As `FpGivesReg`, under the settings that every result is given for. -/
def FpToReg (i : Instr) (s : State) (o : FpOut) (r : Reg) : Prop := s.fpReady → FpGivesReg i s o r

/-- As `FpGivesPair`, under the settings that every result is given for. -/
def FpToPair (i : Instr) (s : State) (o : FpOut) (p : Pair) : Prop := s.fpReady → FpGivesPair i s o p

/-- An instruction of a class that detects an enabled exception: FPSR and FPEPC are written and the destination is not;
in precise mode the FPP exception is taken, in imprecise mode FPEC reports it and the program goes on (R658, R664). -/
def FpRaises (i : Instr) (s : State) (c : FpClass) (det : Det) : Prop :=
  s.fpReady → s.fpEnabled det = true → Gives i s fun t =>
    t.fpu.fpsr = excFpsr s.fpu.fpsr (s.fpPrecise c) det ∧ t.fpu.fpepc = limitAddr s.cfg s.pc ∧
      SameRegsBut [] s t ∧ SameMem s t ∧ t.prot = s.prot ∧ t.ppu = s.ppu ∧ SameRest s t ∧
      (if s.fpPrecise c then
        t.main = s.mainAfterEi s.pc 0x71 ∧ t.psw = s.pswAtHandler 0x60 false false ∧ t.fpu.fpec = s.fpu.fpec ∧
          t.pc = pcValue s.cfg (s.main.ehBase + 0x70)
       else t.main = s.main ∧ t.psw = s.psw ∧ t.tsu = s.tsu ∧ t.fpu.fpec = s.fpu.fpec ||| 1 ∧ Falls 4 s t)

/-- An instruction is invalidated while an imprecise exception is reported: it only moves on (R663). -/
def FpInvalidated (i : Instr) (s : State) : Prop :=
  s.cfg.hasFpu = true → s.fpInvalid = true → Gives i s fun t => t.fpu = s.fpu ∧ Falls 4 s t ∧ OnlyRegs [] 0 s t

/-- Without an FPU an instruction takes the coprocessor unusable exception (R654, R1032). -/
def FpUnusable (i : Instr) (s : State) (code : Word) : Prop :=
  s.cfg.hasFpu = false → EntersFe i s s.pc code 0x30

/-- One operand that is no NaN is less than another: the numbers they stand for are, or an infinity is involved (R771). -/
def Fp.Below : Fp → Fp → Prop
  | .nan _, _ => False
  | _, .nan _ => False
  | .inf a, .inf b => a = true ∧ b = false
  | .inf a, _ => a = true
  | _, .inf b => b = false
  | x, y => x.toRat < y.toRat

/-- A datum of a format, with exponent `e` of its least significant bit: normalized and in range (R650). -/
def Fmt.Normal (f : Fmt) (m : Nat) (e : Int) : Prop :=
  2 ^ f.frac ≤ m ∧ m < 2 ^ (f.frac + 1) ∧ f.emin ≤ e + f.frac ∧ e + f.frac ≤ f.bias

/-- `r` is a number of the format nearest to `q`, an even one where two are; `det` is I if and only if it is not `q` itself. -/
def Fmt.Nearest (f : Fmt) (r : Fp) (det : Det) (neg : Bool) (q : Rat) : Prop :=
  ∃ m e, r = .fin neg m e ∧ f.Normal m e ∧ 2 * |r.toRat - q| ≤ (2 : Rat) ^ e ∧
    (2 * |r.toRat - q| = (2 : Rat) ^ e → m % 2 = 0) ∧ det = if r.toRat = q then 0 else Det.i

end Sys2Proof.Machine
end

