-- ==== Sys2Proof/Certificates/Slice0/Obligations.lean ====
section
/-! DEFINITION. The statements for the provers. -/
section
open Sys2Proof Sys2Proof.Machine

/-- A few example words of the spec decode to the instructions the spec says they are -/
def Obligations.WordsDecode : Prop :=
  decodeHalves 0x5F0A 0xFFFC 0 0 = .ok (.ldB 0xFFFC 10 11) ∧ decodeHalves 0x11C1 0 0 0 = .ok (.add 1 2) ∧
  decodeHalves 0xFDEA 0 0 0 = .ok (.bcond 10 254) ∧ decodeHalves 0x0648 0x0060 0 0 = .ok (.dispose 6 4) ∧
  decodeHalves 0x0625 0x5678 0x1234 0 = .ok (.movImm32 0x12345678 5) ∧
  decodeHalves 0x27E2 0x3470 0 0 = .ok (.addfD 1 2 3) ∧ decodeHalves 0x17E1 0x1D84 0 0 = .ok (.maddfS 1 2 3 5)

/-- Decoding the bytes of any well-formed 16-bit instruction gives it back -/
def Obligations.RoundTrip16 : Prop :=
  ∀ i : Instr, i.wellFormed = true → i.size = 2 → decode (encodeBytes i) = .ok i

/-- Decoding the bytes of any well-formed 32-bit instruction gives it back -/
def Obligations.RoundTrip32 : Prop :=
  ∀ i : Instr, i.wellFormed = true → i.size = 4 → decode (encodeBytes i) = .ok i

/-- Decoding the bytes of any well-formed 48-bit or 64-bit instruction gives it back -/
def Obligations.RoundTripLong : Prop :=
  ∀ i : Instr, i.wellFormed = true → 4 < i.size → decode (encodeBytes i) = .ok i

/-- Whatever the decoder accepts meets the side condition of its row, and has the length of its first two halfwords -/
def Obligations.DecodedIsWellFormed : Prop :=
  ∀ (h1 h2 h3 h4 : Half) (i : Instr), decodeHalves h1 h2 h3 h4 = .ok i →
    i.wellFormed = true ∧ i.size = instrLength h1 h2

/-- A step runs the instruction decoded from what it fetched -/
def Obligations.StepRunsDecoded : Prop :=
  ∀ (s : State) (h1 h2 h3 h4 : Half) (i : Instr),
    s.input.reset = false → s.halted = false → s.dropInput.chosen s.input = none → s.input.mep = none →
    s.dropInput.fetch = .halves h1 h2 h3 h4 → decodeHalves h1 h2 h3 h4 = .ok i →
    Machine.step s = tickOutcome s.input (exec i s.dropInput)

/-- A step runs the instruction whose bytes lie in memory at the program counter. That a fetch sees every earlier store is the model's choice (log entry 14), that the halfwords may lie in different areas D26 (log entry 15). -/
def Obligations.StepRunsMemory : Prop :=
  ∀ (s : State) (i : Instr), i.wellFormed = true → decode (encodeBytes i) = .ok i →
    s.input.reset = false → s.halted = false → s.dropInput.chosen s.input = none → s.input.mep = none →
    (∀ k < i.size, memKind s.cfg (limitAddr s.cfg (s.pc + BitVec.ofNat 32 k)) = .ram ∧
      some (s.mem.read (limitAddr s.cfg (s.pc + BitVec.ofNat 32 k)).toNat) = (encodeBytes i)[k]?) →
    (∀ k < i.size / 2, s.permitsFetch (limitAddr s.cfg (s.pc + BitVec.ofNat 32 (2 * k))) = true) →
    Machine.step s = tickOutcome s.input (exec i s.dropInput)

/-- While NP = 1 only FENMI and SYSERR are accepted, and while ID = 1 neither FPI nor INT is -/
def Obligations.RequestsWhileNp : Prop :=
  ∀ (s : State) (e : Ext) (r : Request), s.chosen e = some r →
    (s.fNP = true → r = .fenmi ∨ ∃ k, r = .syserr k) ∧
    (s.fID = true → r ≠ .fpi ∧ ∀ n, r ≠ .int n) ∧ (e.fenmi = true → r = .fenmi)

/-- Each request is taken at the boundary by priority, and an access error of the fetch is taken instead of the instruction. That the environment is a list of inputs is the model's choice (log entry 7). -/
def Obligations.InterruptIsTaken : Prop :=
  ∀ s : State, s.input.reset = false →
    let e := s.input
    let ppi := s.ppu.ppec.getLsbD 0
    let fpi := s.fpu.fpec.getLsbD 0
    let enters (fe interrupt protection : Bool) (code offset : Word) (P : State → Prop) : Prop := ∃ u : State,
      Machine.step s = .next (u.tick e) ∧
      u.main = (if fe then s.mainAfterFe s.pc code else s.mainAfterEi s.pc code) ∧
      u.psw = s.pswAtHandler (if fe then 0xE0 else 0x60) interrupt protection ∧
      u.pc = pcValue s.cfg (s.main.ehBase + offset) ∧ u.halted = false ∧ u.prot = s.prot ∧ SameRegsBut [] s u ∧
      SameMem s u ∧ u.inputs = s.inputs.tail ∧ P u
    let units (u : State) : Prop := u.ppu = s.ppu ∧ u.fpu = s.fpu ∧ u.reports = s.reports
    let open1 : Prop := e.fenmi = false ∧ e.syserr = none ∧ s.fNP = false
    let open2 : Prop := open1 ∧ ppi = false ∧ s.tsu.request = false ∧ e.feint = false ∧ s.fID = false
    (e.fenmi = true → enters true true false 0x20 0x20 units) ∧
    (e.fenmi = false → ∀ k : Fin 4, e.syserr = some k → enters true false false (0x230 + BitVec.ofNat 32 k) 0x30 units) ∧
    (open1 → ppi = true → enters true false true 0x432 0x30 fun u =>
      u.ppu = { s.ppu with ppec := 0 } ∧ u.fpu = s.fpu ∧ u.reports = s.reports) ∧
    (open1 → ppi = false → s.tsu.request = true → enters true false true 0x433 0x30 fun u =>
      units u ∧ u.tsu.tsec = 1 ∧ ∀ k : Fin 6,
        (u.tsu.counters.get k).es = ((s.tsu.counters.get k).es ||
          ((s.tsu.counters.get k).exm && (s.tsu.counters.get k).vs)) ∧
        (u.tsu.counters.get k).vs = (!(s.tsu.counters.get k).exm && (s.tsu.counters.get k).vs)) ∧
    (open1 → ppi = false → s.tsu.request = false → e.feint = true → enters true true false 0x10 0x10 units) ∧
    (open2 → fpi = true → s.halted = false → enters false false false 0x72 0x70 fun u =>
      u.fpu = { s.fpu with fpec := 0 } ∧ u.ppu = s.ppu ∧ u.reports = s.reports) ∧
    (open2 → fpi = false → ∀ n : Byte, e.int = some n →
      enters false true false (0x80 + n.setWidth 32 <<< 4)
        (if s.main.ehCfg.getLsbD 0 then 0x80 else 0x80 + n.setWidth 32 <<< 4) fun u =>
        u.ppu = s.ppu ∧ u.fpu = s.fpu ∧ u.reports = .ackInt n :: s.reports) ∧
    (e.fenmi = false → e.syserr = none → ppi = false → s.tsu.request = false → e.feint = false → fpi = false →
      e.int = none → s.halted = false → s.dropInput.fetch ≠ .violation → ∀ k : Fin 4, e.mep = some k →
      enters true false false (0x330 + BitVec.ofNat 32 k) 0x30 units)

/-- In the HALT state nothing runs until a request other than FPI comes up, acceptable or not. That the environment is a list of inputs is the model's choice (log entry 7). -/
def Obligations.HaltWaits : Prop :=
  ∀ s : State, s.halted = true → s.input.reset = false →
    ((s.dropInput.requests s.input).any Request.releases = false →
      ∃ t, Machine.step s = .next t ∧ t.halted = true ∧ t.pc = s.pc ∧ t.psw = s.psw ∧ SameRegsBut [] s t ∧ SameMem s t ∧
        t.main = s.main ∧ t.prot = s.prot ∧ t.ppu = s.ppu ∧ t.fpu = s.fpu ∧ t.inputs = s.inputs.tail) ∧
    ((s.dropInput.requests s.input).any Request.releases = true →
      Machine.step s = tickOutcome s.input
        (State.boundary exec s.input { s.dropInput with halted := false }))

/-- The reset state has the values the spec gives and meets the invariants. That PC is 0 is the default product's (log entry 2). -/
def Obligations.ResetValues : Prop :=
  let s := State.reset
  s.pc = 0 ∧ s.psw = 0x20 ∧ s.main.eipsw = 0x20 ∧ s.main.fepsw = 0x20 ∧ s.main.ctpsw = 0x20 ∧ s.main.ecr = 0 ∧
    s.main.eiic = 0 ∧ s.main.feic = 0 ∧ s.main.bsel = 0 ∧ s.prot.mpm = 0 ∧ s.readSys (.dpaL 0) = 2 ∧
    s.readSys (.dpaU 0) = 6 ∧ s.readSys (.dpaL 5) = 6 ∧ s.fpu.fpsr.getLsbD 17 = true ∧
    (∀ c ∈ s.tsu.counters.toList, c.cfg = 0) ∧ s.reg 0 = 0 ∧ s.halted = false ∧
    s.mem.wf = true ∧ s.PcLegal ∧ s.PswLegal ∧ s.LevelLegal ∧ s.CountersLegal

/-- A reset at any boundary gives the reset registers and keeps memory. The registers whose reset value the spec leaves undefined are 0, the model's choice (log entries 1 and 28). -/
def Obligations.ResetInput : Prop :=
  ∀ s : State, s.input.reset = true → ∃ t, Machine.step s = .next t ∧ t.mem = s.mem ∧ t.cfg = s.cfg ∧
    t.halted = false ∧ t.psw = 0x20 ∧ t.pc = pcValue s.cfg t.main.ehReset ∧ t.main = MainRegs.reset s.cfg ∧
    t.prot = ProtRegs.reset ∧ t.fpu = FpuRegs.reset ∧ (∀ r, t.reg r = 0) ∧ t.tsu.tsec = 0 ∧
    (∀ k : Fin 6, (t.tsu.counters.get k).cfg = 0 ∧ (t.tsu.counters.get k).cnt = 0 ∧ (t.tsu.counters.get k).cmp = 0 ∧
      (t.tsu.counters.get k).rld = 0) ∧
    t.ppu = { s.ppu with
      ppm := 0, ppec := 0, ppv := s.cfg.ppvInit, ppt := s.cfg.pptInit, ppp := s.cfg.pppInit, pps := s.cfg.ppsInit }

/-- Every step keeps memory in its canonical form. The canonical form is the model's own (log entry 4). -/
def Obligations.MemoryStaysCanonical : Prop :=
  ∀ s t : State, s.mem.wf = true → Machine.step s = .next t → t.mem.wf = true

/-- Every step keeps the program counter even and the bits of PSW that do not exist at 0. That reserved bits read 0 is the model's choice (log entry 12). -/
def Obligations.PcAndPswStayLegal : Prop :=
  ∀ s t : State, s.PcLegal → s.PswLegal → Machine.step s = .next t → t.PcLegal ∧ t.PswLegal

/-- Every step keeps the protection bits and counters off while MPE = 0, and NPV off while AUE = 0. The position of AUE is a parameter (log entry 6). -/
def Obligations.MasterEnableStays : Prop :=
  ∀ s t : State, s.LevelLegal → s.CountersLegal → Machine.step s = .next t → t.LevelLegal ∧ t.CountersLegal

/-- No instruction changes the protection set-up while NPV = 1, and none but LDSR ever does -/
def Obligations.NpvGuardsProtection : Prop :=
  ∀ (i : Instr) (s t : State), exec i s = .next t → (s.fNPV = true ∨ ∀ r n, i ≠ .ldsr r n) →
    t.prot.mpm = s.prot.mpm ∧ t.prot.tid = s.prot.tid ∧ t.prot.ipa = s.prot.ipa ∧ t.prot.dpa = s.prot.dpa ∧
      t.prot.mca = s.prot.mca ∧ t.prot.mcs = s.prot.mcs ∧ t.main.ehBase = s.main.ehBase ∧
      t.main.ehCfg = s.main.ehCfg ∧ t.main.sccfg = s.main.sccfg ∧ t.main.scbp = s.main.scbp ∧ t.main.bsel = s.main.bsel

/-- NPV goes from 1 to 0 only by an exception or a return instruction -/
def Obligations.NpvLeavesByExceptionOrReturn : Prop :=
  ∀ (i : Instr) (s t : State), s.LevelLegal → exec i s = .next t → s.fNPV = true → t.fNPV = false →
    i = .ctret ∨ i = .eiret ∨ i = .feret ∨ i = .reti ∨ t.main.eipsw = s.psw ∨ t.main.fepsw = s.psw

/-- LDSR to a protected register while NPV = 1 changes nothing but the violation record -/
def Obligations.BlockedLdsr : Prop :=
  ∀ (s : State) (r : Reg) (n : BitVec 5), s.fNPV = true → (s.sysReg n).isProtected = true →
    Gives (.ldsr r n) s fun t =>
      t.prot.vsecr.toNat = (if s.prot.vsecr = 0xFF then 255 else (s.prot.vsecr + 1).toNat) ∧
      t.prot.vstid = (if s.prot.vsecr = 0 then s.prot.tid else s.prot.vstid) ∧
      t.prot.vsadr = (if s.prot.vsecr = 0 then pcValue s.cfg s.pc else s.prot.vsadr) ∧
      (∃ a b c, t.prot = { s.prot with vsecr := a, vstid := b, vsadr := c }) ∧
      t.psw = s.psw ∧ t.main = s.main ∧ t.ppu = s.ppu ∧ t.tsu = s.tsu ∧ t.fpu = s.fpu ∧
      SameRegsBut [] s t ∧ SameMem s t ∧ Falls 4 s t

/-- A load after a store to the same place gives the value stored -/
def Obligations.StoreThenLoad : Prop :=
  ∀ (s : State) (a v : Word) (n : Nat) (sp : Bool), n = 1 ∨ n = 2 ∨ n = 4 →
    s.reaches a n true sp → s.reaches a n false sp →
    ∃ t, s.store a v n sp = .ok () t ∧ t.load a n sp = .ok (lowBytes v n) t ∧
      SameMemBut a n s t ∧ t.regs = s.regs ∧ t.psw = s.psw

/-- A written register reads as written, r0 always reads 0, and no other register changes -/
def Obligations.RegisterWrite : Prop :=
  ∀ (s : State) (r q : Reg) (v : Word) (p : Pair) (d : DWord),
    (s.setReg r v).reg q = (if q = r ∧ r ≠ 0 then v else s.reg q) ∧ s.reg 0 = 0 ∧
    (s.setPair p d).reg p.hi = d.extractLsb' 32 32 ∧
    (s.setPair p d).reg p.lo = (if p = 0 then 0 else d.extractLsb' 0 32)

/-- The additions and subtractions put their result in their register with CY, OV, S and Z, CMP its flags alone -/
def Obligations.AddInstructions : Prop :=
  ∀ (s : State) (r1 r2 r3 : Reg) (i5 : BitVec 5) (i16 : Half) (cc : BitVec 4),
    Adds (.add r1 r2) s r2 (s.reg r2) (s.reg r1) false 2 ∧
    Adds (.addImm5 i5 r2) s r2 (s.reg r2) (sext i5) false 2 ∧
    Adds (.addi i16 r1 r2) s r2 (s.reg r1) (sext i16) false 4 ∧
    Adds (.adf cc r1 r2 r3) s r3 (s.reg r2) (s.reg r1) (Machine.cond cc s) 4 ∧
    Subtracts (.sub r1 r2) s r2 (s.reg r2) (s.reg r1) false 2 ∧
    Subtracts (.subr r1 r2) s r2 (s.reg r1) (s.reg r2) false 2 ∧
    Subtracts (.sbf cc r1 r2 r3) s r3 (s.reg r2) (s.reg r1) (Machine.cond cc s) 4 ∧
    Compares (.cmp r1 r2) s (s.reg r2) (s.reg r1) 2 ∧ Compares (.cmpImm5 i5 r2) s (s.reg r2) (sext i5) 2

/-- After CMP the conditions say how the two operands compare -/
def Obligations.CompareThenCondition : Prop :=
  ∀ (s t : State) (r1 r2 : Reg), exec (.cmp r1 r2) s = .next t →
    let a := s.reg r2
    let b := s.reg r1
    Machine.cond 0b0001 t = decide (a.toNat < b.toNat) ∧ Machine.cond 0b1001 t = decide (b.toNat ≤ a.toNat) ∧
    Machine.cond 0b0011 t = decide (a.toNat ≤ b.toNat) ∧ Machine.cond 0b1011 t = decide (b.toNat < a.toNat) ∧
    Machine.cond 0b0110 t = decide (a.toInt < b.toInt) ∧ Machine.cond 0b1110 t = decide (b.toInt ≤ a.toInt) ∧
    Machine.cond 0b0111 t = decide (a.toInt ≤ b.toInt) ∧ Machine.cond 0b1111 t = decide (b.toInt < a.toInt) ∧
    Machine.cond 0b0010 t = decide (a = b) ∧ Machine.cond 0b1010 t = decide (a ≠ b)

/-- Moves, extensions and conditional moves put their value in their register and change no flag -/
def Obligations.MoveInstructions : Prop :=
  ∀ (s : State) (r1 r2 r3 : Reg) (i5 : BitVec 5) (i16 : Half) (i32 : Word) (cc : BitVec 4),
    Moves (.mov r1 r2) s r2 (s.reg r1) 2 ∧ Moves (.movImm5 i5 r2) s r2 (BitVec.ofInt 32 i5.toInt) 2 ∧
    Moves (.movImm32 i32 r1) s r1 i32 6 ∧ Moves (.movea i16 r1 r2) s r2 (s.reg r1 + BitVec.ofInt 32 i16.toInt) 4 ∧
    Moves (.movhi i16 r1 r2) s r2 (s.reg r1 + BitVec.ofNat 32 (i16.toNat * 65536)) 4 ∧
    Moves (.sxb r1) s r1 (BitVec.ofInt 32 ((s.reg r1).setWidth 8).toInt) 2 ∧
    Moves (.sxh r1) s r1 (BitVec.ofInt 32 ((s.reg r1).setWidth 16).toInt) 2 ∧
    Moves (.zxb r1) s r1 (BitVec.ofNat 32 ((s.reg r1).toNat % 256)) 2 ∧
    Moves (.zxh r1) s r1 (BitVec.ofNat 32 ((s.reg r1).toNat % 65536)) 2 ∧
    Moves (.cmov cc r1 r2 r3) s r3 (if Machine.cond cc s then s.reg r1 else s.reg r2) 4 ∧
    Moves (.cmovImm5 cc i5 r2 r3) s r3 (if Machine.cond cc s then BitVec.ofInt 32 i5.toInt else s.reg r2) 4 ∧
    Moves (.setf cc r2) s r2 (if Machine.cond cc s then 1 else 0) 4 ∧
    Moves (.sasf cc r2) s r2 (BitVec.ofNat 32 (2 * (s.reg r2).toNat + if Machine.cond cc s then 1 else 0)) 4

/-- The multiply instructions give the exact product, MAC and MACU add it modulo 2^64. That MAC and MACU wrap modulo 2^64 is log entry 21. -/
def Obligations.MultiplyInstructions : Prop :=
  ∀ (s : State) (r1 r2 r3 : Reg) (p3 p4 : Pair) (i5 : BitVec 5) (i9 : BitVec 9) (i16 : Half),
    let low (w : Word) : Int := (w.setWidth 16).toInt
    let product (i : Instr) (n : Int) : Prop := Gives i s fun t =>
      Holds t r3 ((BitVec.ofInt 64 n).extractLsb' 32 32) ∧ (r2 ≠ r3 → Holds t r2 (BitVec.ofInt 32 n)) ∧ Falls 4 s t ∧
        OnlyRegs [r2, r3] 0 s t
    let accumulate (i : Instr) (n : Int) : Prop := Gives i s fun t =>
      Holds t p4.lo (BitVec.ofInt 32 (n + (s.pair p3).toInt)) ∧
        Holds t p4.hi ((BitVec.ofInt 64 (n + (s.pair p3).toInt)).extractLsb' 32 32) ∧ Falls 4 s t ∧
        OnlyRegs [p4.lo, p4.hi] 0 s t
    Moves (.mulh r1 r2) s r2 (BitVec.ofInt 32 (low (s.reg r2) * low (s.reg r1))) 2 ∧
    Moves (.mulhImm5 i5 r2) s r2 (BitVec.ofInt 32 (low (s.reg r2) * i5.toInt)) 2 ∧
    Moves (.mulhi i16 r1 r2) s r2 (BitVec.ofInt 32 (low (s.reg r1) * i16.toInt)) 4 ∧
    product (.mul r1 r2 r3) ((s.reg r2).toInt * (s.reg r1).toInt) ∧
    product (.mulImm9 i9 r2 r3) ((s.reg r2).toInt * i9.toInt) ∧
    product (.mulu r1 r2 r3) ((s.reg r2).toNat * (s.reg r1).toNat) ∧
    product (.muluImm9 i9 r2 r3) ((s.reg r2).toNat * i9.toNat) ∧
    accumulate (.mac r1 r2 p3 p4) ((s.reg r2).toInt * (s.reg r1).toInt) ∧
    accumulate (.macu r1 r2 p3 p4) ((s.reg r2).toNat * (s.reg r1).toNat)

/-- The saturated instructions clamp the exact result to the signed range and accumulate SAT -/
def Obligations.SaturatedInstructions : Prop :=
  ∀ (s : State) (r1 r2 r3 : Reg) (i5 : BitVec 5) (i16 : Half),
    let add (i : Instr) (dst : Reg) (a b : Word) (len : Nat) : Prop :=
      Saturates i s dst (a.toInt + b.toInt) (decide (2 ^ 32 ≤ a.toNat + b.toNat)) len
    let sub (i : Instr) (dst : Reg) (a b : Word) (len : Nat) : Prop :=
      Saturates i s dst (a.toInt - b.toInt) (decide (a.toNat < b.toNat)) len
    add (.satadd r1 r2) r2 (s.reg r2) (s.reg r1) 2 ∧ add (.sataddImm5 i5 r2) r2 (s.reg r2) (sext i5) 2 ∧
    add (.satadd3 r1 r2 r3) r3 (s.reg r2) (s.reg r1) 4 ∧ sub (.satsub r1 r2) r2 (s.reg r2) (s.reg r1) 2 ∧
    sub (.satsub3 r1 r2 r3) r3 (s.reg r2) (s.reg r1) 4 ∧ sub (.satsubi i16 r1 r2) r2 (s.reg r1) (sext i16) 4 ∧
    sub (.satsubr r1 r2) r2 (s.reg r1) (s.reg r2) 2

/-- The logical instructions give their result with OV = 0, S and Z, and keep CY and SAT -/
def Obligations.LogicalInstructions : Prop :=
  ∀ (s : State) (r1 r2 : Reg) (i16 : Half),
    Combines (.and r1 r2) s r2 (s.reg r2 &&& s.reg r1) 2 ∧ Combines (.andi i16 r1 r2) s r2 (s.reg r1 &&& zext i16) 4 ∧
    Combines (.or r1 r2) s r2 (s.reg r2 ||| s.reg r1) 2 ∧ Combines (.ori i16 r1 r2) s r2 (s.reg r1 ||| zext i16) 4 ∧
    Combines (.xor r1 r2) s r2 (s.reg r2 ^^^ s.reg r1) 2 ∧ Combines (.xori i16 r1 r2) s r2 (s.reg r1 ^^^ zext i16) 4 ∧
    Combines (.not r1 r2) s r2 (~~~s.reg r1) 2 ∧
    (Gives (.tst r1 r2) s fun t => FlagsAre t s.fCY false (s.reg r2 &&& s.reg r1) ∧ Falls 2 s t ∧ OnlyRegs [] flagsOSZ s t)

/-- The swaps rearrange the bytes of a word and tell of zeros in it; the bit searches count the bits before the first match. The reading of CY is a parameter (log entry 20). -/
def Obligations.SwapAndSearchInstructions : Prop :=
  ∀ (s : State) (r2 r3 : Reg),
    let low (r : Word) : Bool := byteOf r 0 == 0 || byteOf r 1 == 0
    let high (r : Word) : Bool := byteOf r 2 == 0 || byteOf r 3 == 0
    let lowHalf (r : Word) : Bool := byteOf r 0 == 0 && byteOf r 1 == 0
    let highHalf (r : Word) : Bool := byteOf r 2 == 0 && byteOf r 3 == 0
    let a := s.reg r2
    Rearranges (.bsh r2 r3) s r3 a (fun k => if k % 2 = 0 then k + 1 else k - 1) low lowHalf ∧
    Rearranges (.bsw r2 r3) s r3 a (fun k => 3 - k) (fun r => low r || high r) (fun r => r == 0) ∧
    Rearranges (.hsw r2 r3) s r3 a (fun k => (k + 2) % 4) (fun r => lowHalf r || highHalf r) (fun r => r == 0) ∧
    Rearranges (.hsh r2 r3) s r3 a (fun k => k) lowHalf lowHalf ∧
    Searches (.sch0l r2 r3) s r3 (fun k => !a.toNat.testBit (31 - k)) ∧
    Searches (.sch1l r2 r3) s r3 (fun k => a.toNat.testBit (31 - k)) ∧
    Searches (.sch0r r2 r3) s r3 (fun k => !a.toNat.testBit k) ∧
    Searches (.sch1r r2 r3) s r3 (fun k => a.toNat.testBit k)

/-- The shifts give the shifted value, CY the last bit shifted out, OV = 0, S and Z -/
def Obligations.ShiftInstructions : Prop :=
  ∀ (s : State) (r1 r2 r3 : Reg) (i5 : BitVec 5),
    let a := s.reg r2
    let n := (s.reg r1).toNat % 32
    let m := i5.toNat
    let left (i : Instr) (dst : Reg) (n len : Nat) : Prop :=
      MovesFlagged i s dst (BitVec.ofNat 32 (a.toNat * 2 ^ n)) (decide (0 < n) && a.toNat.testBit (32 - n)) false len
    let right (i : Instr) (dst : Reg) (n len : Nat) : Prop :=
      MovesFlagged i s dst (BitVec.ofNat 32 (a.toNat / 2 ^ n)) (decide (0 < n) && a.toNat.testBit (n - 1)) false len
    let arith (i : Instr) (dst : Reg) (n len : Nat) : Prop :=
      MovesFlagged i s dst (BitVec.ofInt 32 (a.toInt / 2 ^ n)) (decide (0 < n) && a.toNat.testBit (n - 1)) false len
    left (.shl r1 r2) r2 n 4 ∧ left (.shlImm5 i5 r2) r2 m 2 ∧ left (.shl3 r1 r2 r3) r3 n 4 ∧
    right (.shr r1 r2) r2 n 4 ∧ right (.shrImm5 i5 r2) r2 m 2 ∧ right (.shr3 r1 r2 r3) r3 n 4 ∧
    arith (.sar r1 r2) r2 n 4 ∧ arith (.sarImm5 i5 r2) r2 m 2 ∧ arith (.sar3 r1 r2 r3) r3 n 4

/-- The divisions give the quotient truncated toward zero and its remainder; by zero they set OV; into one register they leave the remainder. Truncation toward zero and the result of an overflow are log entry 19, the open values log entry 3. -/
def Obligations.DivideInstructions : Prop :=
  ∀ (s : State) (r1 r2 r3 : Reg),
    let n := (s.reg r2).toInt
    let nu : Int := (s.reg r2).toNat
    let h := ((s.reg r1).setWidth 16).toInt
    let hu : Int := (s.reg r1).toNat % 65536
    Divides (.div r1 r2 r3) s true n (s.reg r1).toInt r2 (some r3) 4 ∧
    Divides (.divq r1 r2 r3) s true n (s.reg r1).toInt r2 (some r3) 4 ∧
    Divides (.divu r1 r2 r3) s false nu (s.reg r1).toNat r2 (some r3) 4 ∧
    Divides (.divqu r1 r2 r3) s false nu (s.reg r1).toNat r2 (some r3) 4 ∧
    Divides (.divh r1 r2 r3) s true n h r2 (some r3) 4 ∧ Divides (.divhReg r1 r2) s true n h r2 none 2 ∧
    Divides (.divhu r1 r2 r3) s false nu hu r2 (some r3) 4 ∧
    DividesByZero (.div r1 r2 r3) s (s.reg r1).toInt r2 (some r3) 4 ∧ DividesByZero (.divq r1 r2 r3) s (s.reg r1).toInt r2 (some r3) 4 ∧
    DividesByZero (.divu r1 r2 r3) s (s.reg r1).toInt r2 (some r3) 4 ∧ DividesByZero (.divqu r1 r2 r3) s (s.reg r1).toInt r2 (some r3) 4 ∧
    DividesByZero (.divh r1 r2 r3) s h r2 (some r3) 4 ∧ DividesByZero (.divhu r1 r2 r3) s hu r2 (some r3) 4 ∧
    DividesByZero (.divhReg r1 r2) s h r2 none 2 ∧
    DividesIntoOne (.div r1 r2 r3) s true n (s.reg r1).toInt r2 r3 ∧ DividesIntoOne (.divq r1 r2 r3) s true n (s.reg r1).toInt r2 r3 ∧
    DividesIntoOne (.divu r1 r2 r3) s false nu (s.reg r1).toNat r2 r3 ∧
    DividesIntoOne (.divqu r1 r2 r3) s false nu (s.reg r1).toNat r2 r3 ∧
    DividesIntoOne (.divh r1 r2 r3) s true n h r2 r3 ∧ DividesIntoOne (.divhu r1 r2 r3) s false nu hu r2 r3

/-- The jumps and branches go to their target with bit 0 cleared, link after themselves, or go by a halfword of a table -/
def Obligations.BranchInstructions : Prop :=
  ∀ (s : State) (r1 r2 : Reg) (cc : BitVec 4) (d8 : BitVec 8) (d21 : BitVec 21) (d31 : BitVec 31)
    (i6 : BitVec 6),
    let goes (i : Instr) (a : Word) : Prop := Gives i s fun t => t.pc = pcValue s.cfg a ∧ OnlyRegs [] 0 s t
    let links (i : Instr) (r : Reg) (n : Word) (a : Word) : Prop := Gives i s fun t =>
      Holds t r (s.pc + n) ∧ t.pc = pcValue s.cfg a ∧ OnlyRegs [r] 0 s t
    let c := s.main.ctbp + BitVec.ofNat 32 (2 * i6.toNat)
    let w := s.pc + 2 + BitVec.ofNat 32 (2 * (s.reg r1).toNat)
    goes (.bcond cc d8) (if Machine.cond cc s then s.pc + BitVec.ofInt 32 (2 * d8.toInt) else s.pc + 2) ∧
    goes (.jr22 d21) (s.pc + BitVec.ofInt 32 (2 * d21.toInt)) ∧ goes (.jr32 d31) (s.pc + BitVec.ofNat 32 (2 * d31.toNat)) ∧
    goes (.jmp r1) (s.reg r1) ∧ goes (.jmp32 d31 r1) (s.reg r1 + BitVec.ofNat 32 (2 * d31.toNat)) ∧
    links (.jarl22 d21 r2) r2 4 (s.pc + BitVec.ofInt 32 (2 * d21.toInt)) ∧
    links (.jarl32 d31 r1) r1 6 (s.pc + BitVec.ofNat 32 (2 * d31.toNat)) ∧
    (s.reaches c 2 false false → Gives (.callt i6) s fun t =>
      t.main = { s.main with ctpc := limitAddr s.cfg (s.pc + 2), ctpsw := s.psw } ∧
      t.pc = pcValue s.cfg (s.main.ctbp + s.bytesAt c 2) ∧ t.psw = s.psw ∧ SameRegsBut [] s t ∧ SameMem s t ∧
      t.prot = s.prot ∧ t.tsu = s.tsu ∧ t.ppu = s.ppu ∧ t.fpu = s.fpu ∧ SameRest s t) ∧
    (s.reaches w 2 false false → Gives (.switch r1) s fun t =>
      t.pc = pcValue s.cfg (s.pc + 2 + BitVec.ofInt 32 (2 * ((s.bytesAt w 2).setWidth 16).toInt)) ∧ OnlyRegs [] 0 s t)

/-- SET1, CLR1, NOT1 and TST1 tell the bit in Z and change it in memory -/
def Obligations.BitInstructions : Prop :=
  ∀ (s : State) (r1 r2 : Reg) (b : BitVec 3) (d : BitVec 16),
    let a := s.reg r1 + BitVec.ofInt 32 d.toInt
    let sp := r1 == spReg
    let n := b.toNat
    let m := (s.reg r2).toNat % 8
    ModifiesBit (.set1 b d r1) s a sp n (fun v => v ||| 1#8 <<< n) ∧
    ModifiesBit (.clr1 b d r1) s a sp n (fun v => v &&& ~~~(1#8 <<< n)) ∧
    ModifiesBit (.not1 b d r1) s a sp n (fun v => v ^^^ 1#8 <<< n) ∧ TestsBit (.tst1 b d r1) s a sp n ∧
    ModifiesBit (.set1Reg r2 r1) s (s.reg r1) sp m (fun v => v ||| 1#8 <<< m) ∧
    ModifiesBit (.clr1Reg r2 r1) s (s.reg r1) sp m (fun v => v &&& ~~~(1#8 <<< m)) ∧
    ModifiesBit (.not1Reg r2 r1) s (s.reg r1) sp m (fun v => v ^^^ 1#8 <<< m) ∧
    TestsBit (.tst1Reg r2 r1) s (s.reg r1) sp m

/-- The loads put the datum at their address, extended, in their register. That addresses wrap modulo 2^32 is the spec's decision D1 (log entry 10). -/
def Obligations.LoadInstructions : Prop :=
  ∀ (s : State) (r1 r2 : Reg) (d16 : BitVec 16) (d15 : BitVec 15) (d23 : BitVec 23) (d22 : BitVec 22)
    (d7 : BitVec 7) (d6 : BitVec 6) (d4 : BitVec 4),
    let sp := r1 == spReg
    let a (n : Int) : Word := s.reg r1 + BitVec.ofInt 32 n
    let e (n : Nat) : Word := s.reg 30 + BitVec.ofNat 32 n
    let sb (w : Word) : Word := BitVec.ofInt 32 (w.setWidth 8).toInt
    let sh (w : Word) : Word := BitVec.ofInt 32 (w.setWidth 16).toInt
    Loads (.ldB d16 r1 r2) s (a d16.toInt) 1 sp sb r2 4 ∧ Loads (.ldBu d16 r1 r2) s (a d16.toInt) 1 sp id r2 4 ∧
    Loads (.ldH d15 r1 r2) s (a (2 * d15.toInt)) 2 sp sh r2 4 ∧
    Loads (.ldHu d15 r1 r2) s (a (2 * d15.toInt)) 2 sp id r2 4 ∧
    Loads (.ldW d15 r1 r2) s (a (2 * d15.toInt)) 4 sp id r2 4 ∧
    Loads (.ldB23 d23 r1 r2) s (a d23.toInt) 1 sp sb r2 6 ∧ Loads (.ldBu23 d23 r1 r2) s (a d23.toInt) 1 sp id r2 6 ∧
    Loads (.ldH23 d22 r1 r2) s (a (2 * d22.toInt)) 2 sp sh r2 6 ∧
    Loads (.ldHu23 d22 r1 r2) s (a (2 * d22.toInt)) 2 sp id r2 6 ∧
    Loads (.ldW23 d22 r1 r2) s (a (2 * d22.toInt)) 4 sp id r2 6 ∧
    Loads (.sldB d7 r2) s (e d7.toNat) 1 false sb r2 2 ∧ Loads (.sldBu d4 r2) s (e d4.toNat) 1 false id r2 2 ∧
    Loads (.sldH d7 r2) s (e (2 * d7.toNat)) 2 false sh r2 2 ∧ Loads (.sldHu d4 r2) s (e (2 * d4.toNat)) 2 false id r2 2 ∧
    Loads (.sldW d6 r2) s (e (4 * d6.toNat)) 4 false id r2 2

/-- The stores put the low bytes of their register at their address and change no other byte. That addresses wrap modulo 2^32 is the spec's decision D1 (log entry 10). -/
def Obligations.StoreInstructions : Prop :=
  ∀ (s : State) (r1 r2 : Reg) (d16 : BitVec 16) (d15 : BitVec 15) (d23 : BitVec 23) (d22 : BitVec 22)
    (d7 : BitVec 7) (d6 : BitVec 6),
    let sp := r1 == spReg
    let a (n : Int) : Word := s.reg r1 + BitVec.ofInt 32 n
    let e (n : Nat) : Word := s.reg 30 + BitVec.ofNat 32 n
    let v := s.reg r2
    Stores (.stB r2 d16 r1) s (a d16.toInt) 1 sp v 4 ∧ Stores (.stB23 r2 d23 r1) s (a d23.toInt) 1 sp v 6 ∧
    Stores (.stH r2 d15 r1) s (a (2 * d15.toInt)) 2 sp v 4 ∧ Stores (.stH23 r2 d22 r1) s (a (2 * d22.toInt)) 2 sp v 6 ∧
    Stores (.stW r2 d15 r1) s (a (2 * d15.toInt)) 4 sp v 4 ∧ Stores (.stW23 r2 d22 r1) s (a (2 * d22.toInt)) 4 sp v 6 ∧
    Stores (.sstB r2 d7) s (e d7.toNat) 1 false v 2 ∧ Stores (.sstH r2 d7) s (e (2 * d7.toNat)) 2 false v 2 ∧
    Stores (.sstW r2 d6) s (e (4 * d6.toNat)) 4 false v 2

/-- An access that memory protection does not permit takes the MDP exception, with no more done than PREPARE and DISPOSE did before it -/
def Obligations.ForbiddenAccessTraps : Prop :=
  ∀ (s : State) (r1 r2 r3 : Reg) (b : BitVec 3) (d16 : BitVec 16) (d15 : BitVec 15) (d23 : BitVec 23) (d22 : BitVec 22)
    (d7 : BitVec 7) (d6 : BitVec 6) (d4 : BitVec 4)
    (l : BitVec 12) (i5 : BitVec 5) (i6 : BitVec 6) (i16 : Half) (i32 : Word) (k : Nat),
    let sp := r1 == spReg
    let a (n : Int) : Word := s.reg r1 + BitVec.ofInt 32 n
    let e (n : Nat) : Word := s.reg 30 + BitVec.ofNat 32 n
    Traps (.ldB d16 r1 r2) s (a d16.toInt) 1 false sp ∧ Traps (.ldBu d16 r1 r2) s (a d16.toInt) 1 false sp ∧
    Traps (.ldH d15 r1 r2) s (a (2 * d15.toInt)) 2 false sp ∧ Traps (.ldHu d15 r1 r2) s (a (2 * d15.toInt)) 2 false sp ∧
    Traps (.ldW d15 r1 r2) s (a (2 * d15.toInt)) 4 false sp ∧ Traps (.ldB23 d23 r1 r2) s (a d23.toInt) 1 false sp ∧
    Traps (.ldBu23 d23 r1 r2) s (a d23.toInt) 1 false sp ∧ Traps (.ldH23 d22 r1 r2) s (a (2 * d22.toInt)) 2 false sp ∧
    Traps (.ldHu23 d22 r1 r2) s (a (2 * d22.toInt)) 2 false sp ∧ Traps (.ldW23 d22 r1 r2) s (a (2 * d22.toInt)) 4 false sp ∧
    Traps (.sldB d7 r2) s (e d7.toNat) 1 false false ∧ Traps (.sldBu d4 r2) s (e d4.toNat) 1 false false ∧
    Traps (.sldH d7 r2) s (e (2 * d7.toNat)) 2 false false ∧ Traps (.sldHu d4 r2) s (e (2 * d4.toNat)) 2 false false ∧
    Traps (.sldW d6 r2) s (e (4 * d6.toNat)) 4 false false ∧
    Traps (.stB r2 d16 r1) s (a d16.toInt) 1 true sp ∧ Traps (.stB23 r2 d23 r1) s (a d23.toInt) 1 true sp ∧
    Traps (.stH r2 d15 r1) s (a (2 * d15.toInt)) 2 true sp ∧ Traps (.stH23 r2 d22 r1) s (a (2 * d22.toInt)) 2 true sp ∧
    Traps (.stW r2 d15 r1) s (a (2 * d15.toInt)) 4 true sp ∧ Traps (.stW23 r2 d22 r1) s (a (2 * d22.toInt)) 4 true sp ∧
    Traps (.sstB r2 d7) s (e d7.toNat) 1 true false ∧ Traps (.sstH r2 d7) s (e (2 * d7.toNat)) 2 true false ∧
    Traps (.sstW r2 d6) s (e (4 * d6.toNat)) 4 true false ∧
    Traps (.tst1 b d16 r1) s (a d16.toInt) 1 false sp ∧ Traps (.tst1Reg r2 r1) s (s.reg r1) 1 false sp ∧
    TrapsRmw (.set1 b d16 r1) s (a d16.toInt) 1 sp ∧ TrapsRmw (.clr1 b d16 r1) s (a d16.toInt) 1 sp ∧
    TrapsRmw (.not1 b d16 r1) s (a d16.toInt) 1 sp ∧ TrapsRmw (.set1Reg r2 r1) s (s.reg r1) 1 sp ∧
    TrapsRmw (.clr1Reg r2 r1) s (s.reg r1) 1 sp ∧ TrapsRmw (.not1Reg r2 r1) s (s.reg r1) 1 sp ∧
    TrapsRmw (.caxi r1 r2 r3) s (s.reg r1 &&& ~~~3#32) 4 sp ∧
    Traps (.callt i6) s (s.main.ctbp + BitVec.ofNat 32 (2 * i6.toNat)) 2 false false ∧
    Traps (.switch r1) s (s.pc + 2 + BitVec.ofNat 32 (2 * (s.reg r1).toNat)) 2 false false ∧
    PrepareTraps (.prepare l i5) s l k ∧ PrepareTraps (.prepareSp l i5) s l k ∧
    PrepareTraps (.prepareImm16 l i5 i16) s l k ∧ PrepareTraps (.prepareImm16Shl l i5 i16) s l k ∧
    PrepareTraps (.prepareImm32 l i5 i32) s l k ∧ DisposeTraps (.dispose l i5) s l i5 k ∧
    DisposeTraps (.disposeJmp l i5 r1) s l i5 k

/-- The MDP and MIP exceptions record the violation and enter the FE level with the protection bits cleared -/
def Obligations.MdpException : Prop :=
  ∀ (s : State) (a c : Word) (i : Instr),
    let handled (t : State) (code cause at' : Word) : Prop :=
      t.prot = { s.prot with vmecr := cause, vmtid := s.prot.tid, vmadr := at' } ∧ t.main = s.mainAfterFe s.pc code ∧
        t.psw = s.pswAtHandler 0xE0 false true ∧ t.psw &&& protMask = 0 ∧ t.fNP = true ∧ t.fEP = true ∧ t.fID = true ∧
        t.pc = pcValue s.cfg (s.main.ehBase + 0x30) ∧ KeepsData s t
    handled (s.raiseMdp a c) 0x431 c a ∧ handled s.raiseMip 0x430 2 s.pc ∧
    (i.wellFormed = true → decode (encodeBytes i) = .ok i → s.input.reset = false → s.halted = false →
      s.dropInput.chosen s.input = none →
      (∀ k < i.size, memKind s.cfg (limitAddr s.cfg (s.pc + BitVec.ofNat 32 k)) = .ram ∧
        some (s.mem.read (limitAddr s.cfg (s.pc + BitVec.ofNat 32 k)).toNat) = (encodeBytes i)[k]?) →
      (∃ k < i.size / 2, s.permitsFetch (limitAddr s.cfg (s.pc + BitVec.ofNat 32 (2 * k))) = false) →
      Machine.step s = tickOutcome s.input (.next s.dropInput.raiseMip))

/-- What memory protection permits: an area that holds the whole access and has the right, and an area for the stack. The unsigned comparison D25 and the check of D33 are log entry 15. -/
def Obligations.PermitsMeans : Prop :=
  ∀ (s : State) (a : Word) (n : Nat) (sp : Bool) (r : Reg) (m : BitVec 5), 0 < n →
    (s.permits a n false sp = true ↔
      (s.fDMP = true → s.CanRead a.toNat n ∧ (sp = true → s.CanStack a.toNat n))) ∧
    (s.permits a n true sp = true ↔
      (s.fDMP = true → s.InDpa a.toNat n 2 ∧ (sp = true → s.CanStack a.toNat n))) ∧
    (s.permitsFetch a = true ↔ (s.fIMP = true → s.InIpa a.toNat 2 0)) ∧
    (s.sysReg m = .mcc → s.fNPV = false → s.prot.mcs ≠ 0 → Gives (.ldsr r m) s fun t =>
      let b := s.prot.mca.toNat
      let size := s.prot.mcs.toNat
      let ov : Prop := 2 ^ 32 < b + size ∨ (b < 2 ^ 31 ∧ 2 ^ 31 < b + size)
      (t.prot.mcr.getLsbD 8 = true ↔ ov) ∧ (t.prot.mcr.getLsbD 4 = true ↔ ¬ov ∧ s.CanStack b size) ∧
      (t.prot.mcr.getLsbD 2 = true ↔ ¬ov ∧ s.InDpa b size 2) ∧ (t.prot.mcr.getLsbD 1 = true ↔ ¬ov ∧ s.CanRead b size) ∧
      (t.prot.mcr.getLsbD 0 = true ↔ ¬ov ∧ s.InIpa b size 0) ∧ t.prot.mcr &&& ~~~0x117#32 = 0 ∧
      t.prot = { s.prot with mcr := t.prot.mcr } ∧ t.main = s.main ∧ t.psw = s.psw ∧ t.tsu = s.tsu ∧ t.ppu = s.ppu ∧
      t.fpu = s.fpu ∧ SameRegsBut [] s t ∧ SameMem s t ∧ SameRest s t ∧ Falls 4 s t)

/-- A store or read-modify-write that peripheral protection stops writes nothing and is recorded. The decisions D27 to D30 are log entry 15, the open values log entry 3. -/
def Obligations.PeripheralWriteIsBlocked : Prop :=
  ∀ (s : State) (r1 r2 r3 : Reg) (b : BitVec 3) (d16 : BitVec 16) (d15 : BitVec 15) (d23 : BitVec 23) (d22 : BitVec 22)
    (d7 : BitVec 7) (d6 : BitVec 6),
    let sp := r1 == spReg
    let a (n : Int) : Word := s.reg r1 + BitVec.ofInt 32 n
    let e (n : Nat) : Word := s.reg 30 + BitVec.ofNat 32 n
    let m := (s.reg r2).toNat % 8
    let x := s.reg r1 &&& ~~~3#32
    let w := s.bytesAt x 4
    StoreStops (.stB r2 d16 r1) s (a d16.toInt) 1 sp 4 ∧ StoreStops (.stB23 r2 d23 r1) s (a d23.toInt) 1 sp 6 ∧
    StoreStops (.stH r2 d15 r1) s (a (2 * d15.toInt)) 2 sp 4 ∧ StoreStops (.stH23 r2 d22 r1) s (a (2 * d22.toInt)) 2 sp 6 ∧
    StoreStops (.stW r2 d15 r1) s (a (2 * d15.toInt)) 4 sp 4 ∧ StoreStops (.stW23 r2 d22 r1) s (a (2 * d22.toInt)) 4 sp 6 ∧
    StoreStops (.sstB r2 d7) s (e d7.toNat) 1 false 2 ∧ StoreStops (.sstH r2 d7) s (e (2 * d7.toNat)) 2 false 2 ∧
    StoreStops (.sstW r2 d6) s (e (4 * d6.toNat)) 4 false 2 ∧
    ModifyStops (.set1 b d16 r1) s (a d16.toInt) sp b.toNat ∧ ModifyStops (.clr1 b d16 r1) s (a d16.toInt) sp b.toNat ∧
    ModifyStops (.not1 b d16 r1) s (a d16.toInt) sp b.toNat ∧ ModifyStops (.set1Reg r2 r1) s (s.reg r1) sp m ∧
    ModifyStops (.clr1Reg r2 r1) s (s.reg r1) sp m ∧ ModifyStops (.not1Reg r2 r1) s (s.reg r1) sp m ∧
    (s.permits x 4 true sp = true → s.Stopped x 4 false sp → Gives (.caxi r1 r2 r3) s fun t =>
      Falls 4 s t ∧ OnlyUnit (s.unitAfter x 4 false) [r3] flagsCOSZ s t) ∧
    (s.reaches x 4 false sp → s.Stopped x 4 true sp → Gives (.caxi r1 r2 r3) s fun t =>
      Holds t r3 w ∧ FlagsAre t (decide ((s.reg r2).toNat < w.toNat)) (decide ¬Fits ((s.reg r2).toInt - w.toInt))
        (BitVec.ofInt 32 ((s.reg r2).toInt - w.toInt)) ∧
      Falls 4 s t ∧ OnlyUnit (s.unitAfter x 4 true) [r3] flagsCOSZ s t)

/-- A load, a table jump or a register list that peripheral protection stops completes and reaches nothing. The decisions D27 to D30 are log entry 15, and so is that CALLT and SWITCH go on at some address. -/
def Obligations.BlockedReads : Prop :=
  ∀ (s : State) (r1 r2 : Reg) (b : BitVec 3) (d16 : BitVec 16) (d15 : BitVec 15) (d23 : BitVec 23) (d22 : BitVec 22)
    (d7 : BitVec 7) (d6 : BitVec 6) (d4 : BitVec 4) (i6 : BitVec 6) (l : BitVec 12) (i5 : BitVec 5) (i16 : Half)
    (i32 : Word),
    let sp := r1 == spReg
    let a (n : Int) : Word := s.reg r1 + BitVec.ofInt 32 n
    let e (n : Nat) : Word := s.reg 30 + BitVec.ofNat 32 n
    let c := s.main.ctbp + BitVec.ofNat 32 (2 * i6.toNat)
    let w := s.pc + 2 + BitVec.ofNat 32 (2 * (s.reg r1).toNat)
    let n := 4 * BitVec.ofNat 32 (listRegs l).length
    let size := BitVec.ofNat 32 (4 * i5.toNat)
    let sp' := s.reg spReg - n - size
    let pushes (i : Instr) (more : List (Reg × Word)) (len : Nat) : Prop :=
      s.Invalidates → s.stopAfter = none → (∀ k < (listRegs l).length, s.permits (s.pushAddress k) 4 true true = true) →
      Gives i s fun t => t.reg spReg = sp' ∧ (∀ p ∈ more, t.reg p.1 = p.2) ∧ Falls len s t ∧
        OnlyUnit s.ppu (spReg :: more.map Prod.fst) 0 s t
    let pops (i : Instr) (next : State → Word) : Prop :=
      s.Invalidates → s.stopAfter = none →
      (∀ k < (listRegs l).length, s.permits (s.popAddress i5 k) 4 false true = true) → Gives i s fun t =>
        t.reg spReg = s.reg spReg + size + n ∧ t.pc = pcValue s.cfg (next t) ∧
          OnlyUnit s.ppu (spReg :: listRegs l) 0 s t
    LoadStops (.ldB d16 r1 r2) s (a d16.toInt) 1 sp r2 0 4 ∧ LoadStops (.ldBu d16 r1 r2) s (a d16.toInt) 1 sp r2 0 4 ∧
    LoadStops (.ldH d15 r1 r2) s (a (2 * d15.toInt)) 2 sp r2 0 4 ∧
    LoadStops (.ldHu d15 r1 r2) s (a (2 * d15.toInt)) 2 sp r2 0 4 ∧
    LoadStops (.ldW d15 r1 r2) s (a (2 * d15.toInt)) 4 sp r2 0 4 ∧
    LoadStops (.ldB23 d23 r1 r2) s (a d23.toInt) 1 sp r2 0 6 ∧ LoadStops (.ldBu23 d23 r1 r2) s (a d23.toInt) 1 sp r2 0 6 ∧
    LoadStops (.ldH23 d22 r1 r2) s (a (2 * d22.toInt)) 2 sp r2 0 6 ∧
    LoadStops (.ldHu23 d22 r1 r2) s (a (2 * d22.toInt)) 2 sp r2 0 6 ∧
    LoadStops (.ldW23 d22 r1 r2) s (a (2 * d22.toInt)) 4 sp r2 0 6 ∧
    LoadStops (.sldB d7 r2) s (e d7.toNat) 1 false r2 0 2 ∧ LoadStops (.sldBu d4 r2) s (e d4.toNat) 1 false r2 0 2 ∧
    LoadStops (.sldH d7 r2) s (e (2 * d7.toNat)) 2 false r2 0 2 ∧
    LoadStops (.sldHu d4 r2) s (e (2 * d4.toNat)) 2 false r2 0 2 ∧
    LoadStops (.sldW d6 r2) s (e (4 * d6.toNat)) 4 false r2 0 2 ∧
    LoadStops (.tst1 b d16 r1) s (a d16.toInt) 1 sp 0 1 4 ∧ LoadStops (.tst1Reg r2 r1) s (s.reg r1) 1 sp 0 1 4 ∧
    (s.Stopped c 2 false false → Gives (.callt i6) s fun t =>
      t.main = { s.main with ctpc := limitAddr s.cfg (s.pc + 2), ctpsw := s.psw } ∧ t.ppu = s.unitAfter c 2 false ∧
      t.psw = s.psw ∧ SameRegsBut [] s t ∧ t.mem = s.mem ∧ t.prot = s.prot ∧ t.tsu = s.tsu ∧ t.fpu = s.fpu ∧
      SameRest s t) ∧
    (s.Stopped w 2 false false → Gives (.switch r1) s fun t => OnlyUnit (s.unitAfter w 2 false) [] 0 s t) ∧
    pushes (.prepare l i5) [] 4 ∧ pushes (.prepareSp l i5) [(epReg, sp')] 4 ∧
    pushes (.prepareImm16 l i5 i16) [(epReg, BitVec.ofInt 32 i16.toInt)] 6 ∧
    pushes (.prepareImm16Shl l i5 i16) [(epReg, BitVec.ofNat 32 (65536 * i16.toNat))] 6 ∧
    pushes (.prepareImm32 l i5 i32) [(epReg, i32)] 8 ∧
    pops (.dispose l i5) (fun _ => s.pc + 4) ∧ pops (.disposeJmp l i5 r1) (fun t => t.reg r1)

/-- TRAP, FETRAP, RIE and SYSCALL save the context and go to their handler -/
def Obligations.SoftwareExceptions : Prop :=
  ∀ (s : State) (v5 : BitVec 5) (v4 : BitVec 4) (v : BitVec 8),
    let index := if v.toNat ≤ s.main.sccfg.toNat % 256 then v.toNat else 0
    let entry := s.main.scbp + BitVec.ofNat 32 (4 * index)
    EntersEi (.trap v5) s (s.pc + 4) (BitVec.ofNat 32 (0x40 + v5.toNat)) (if v5.toNat < 16 then 0x40 else 0x50) ∧
    EntersFe (.fetrap v4) s (s.pc + 2) (BitVec.ofNat 32 (0x30 + v4.toNat)) 0x30 ∧
    EntersFe .rie s s.pc 0x130 0x30 ∧ EntersFe (.rieImm v5 v4) s s.pc 0x130 0x30 ∧
    ((∀ k < 4, memKind s.cfg (entry + BitVec.ofNat 32 k) = .ram) →
    Gives (.syscall v) s fun t => t.main = s.mainAfterEi (s.pc + 4) (BitVec.ofNat 32 (0x8000 + v.toNat)) ∧
      t.psw = s.pswAtHandler 0x60 false false ∧ t.pc = pcValue s.cfg (s.main.scbp + s.bytesAt entry 4) ∧
      t.prot = s.prot ∧ KeepsData s t)

/-- EIRET, FERET, RETI and CTRET restore PC and PSW from their pair of registers. RETI's rule is taken whatever NP and EP are (log entry 27). -/
def Obligations.ReturnInstructions : Prop :=
  ∀ s : State,
    Returns .eiret s s.main.eipc s.main.eipsw (!s.fEP) ∧ Returns .feret s s.main.fepc s.main.fepsw (!s.fEP) ∧
    (if s.fNP && !s.fEP then Returns .reti s s.main.fepc s.main.fepsw true
      else Returns .reti s s.main.eipc s.main.eipsw (!s.fEP)) ∧
    Returns .ctret s s.main.ctpc s.main.ctpsw false

/-- CAXI compares, stores reg3 on equality, and gives the old word to reg3 -/
def Obligations.CompareAndExchange : Prop :=
  ∀ (s : State) (r1 r2 r3 : Reg),
    let a := s.reg r1 &&& ~~~3#32
    let w := s.bytesAt a 4
    s.reaches a 4 false (r1 == spReg) → s.reaches a 4 true (r1 == spReg) → Gives (.caxi r1 r2 r3) s fun t =>
      Holds t r3 w ∧ (∀ k < 4, t.mem.read (a + BitVec.ofNat 32 k).toNat = byteOf (if s.reg r2 = w then s.reg r3 else w) k) ∧
      FlagsAre t (decide ((s.reg r2).toNat < w.toNat)) (decide ¬Fits ((s.reg r2).toInt - w.toInt))
        (BitVec.ofInt 32 ((s.reg r2).toInt - w.toInt)) ∧
      Falls 4 s t ∧ OnlyMem a 4 [r3] flagsCOSZ s t

/-- PREPARE stores the listed registers below sp and sets sp and ep; DISPOSE loads them from above sp and moves sp past them -/
def Obligations.PrepareInstruction : Prop :=
  ∀ (s : State) (w : Word) (l : BitVec 12) (i5 : BitVec 5) (i16 : Half) (i32 : Word) (r1 : Reg),
    let m := w.extractLsb' 21 11 ++ w.extractLsb' 0 1
    let frame (op : BitVec 10) : Half := op ++ i5 ++ w.extractLsb' 0 1
    let list (low : BitVec 5) : Half := w.extractLsb' 21 11 ++ low
    let sp' := s.reg spReg - 4 * BitVec.ofNat 32 (listRegs l).length - BitVec.ofNat 32 (4 * i5.toNat)
    Prepares (.prepare l i5) s l i5 [] 4 ∧ Prepares (.prepareSp l i5) s l i5 [(epReg, sp')] 4 ∧
    Prepares (.prepareImm16 l i5 i16) s l i5 [(epReg, BitVec.ofInt 32 i16.toInt)] 6 ∧
    Prepares (.prepareImm16Shl l i5 i16) s l i5 [(epReg, BitVec.ofNat 32 (65536 * i16.toNat))] 6 ∧
    Prepares (.prepareImm32 l i5 i32) s l i5 [(epReg, i32)] 8 ∧
    Disposes (.dispose l i5) s l i5 (fun _ => s.pc + 4) ∧ Disposes (.disposeJmp l i5 r1) s l i5 (fun t => t.reg r1) ∧
    listRegs m = ((([(27, 20), (26, 21), (25, 22), (24, 23), (31, 24), (30, 25), (29, 26), (28, 27), (23, 28), (22, 29), (0, 30),
      (21, 31)] : List (Nat × Reg)).filter fun p => w.getLsbD p.1).map Prod.snd) ∧
    decodeHalves (frame 0b0000011110) (list 0b00001) 0 0 = .ok (.prepare m i5) ∧
    decodeHalves (frame 0b0000011001) (list 0b00000) 0 0 = .ok (.dispose m i5)

/-- NOP and the SYNC instructions only move on; DI and EI write ID; HALT stops the machine. That the SYNC instructions find nothing to wait for is log entry 14. -/
def Obligations.ControlInstructions : Prop :=
  ∀ s : State,
    let quiet (i : Instr) : Prop := Gives i s fun t => Falls 2 s t ∧ OnlyRegs [] 0 s t
    let keeps (t : State) : Prop := Falls 4 s t ∧ t.main = s.main ∧ t.prot = s.prot ∧ KeepsData s t
    quiet .nop ∧ quiet .synce ∧ quiet .syncm ∧ quiet .syncp ∧
    (Gives .di s fun t => t.psw = (s.psw ||| 0x20) &&& s.pswAllowed ∧ keeps t) ∧
    (Gives .ei s fun t => t.psw = (s.psw &&& ~~~0x20#32) &&& s.pswAllowed ∧ keeps t) ∧
    (Gives .halt s fun t => t.halted = true ∧ Falls 4 s t ∧ t.psw = s.psw ∧ t.regs = s.regs ∧ t.mem = s.mem ∧
      t.main = s.main ∧ t.prot = s.prot ∧ t.ppu = s.ppu ∧ t.tsu = s.tsu ∧ t.fpu = s.fpu)

/-- A system register written by LDSR reads back as its writable bits, STSR giving the value it reads. That reserved bits read 0 is log entry 12, what a reserved entry gives log entry 13. That bit 0 of EIPC, FEPC and CTPC reads back as written is the model's choice (log entry 11), that W and R of DPA0U do D20 (log entry 15). -/
def Obligations.LdsrThenRead : Prop :=
  ∀ (s : State) (r : Reg) (n : BitVec 5),
    (Gives (.ldsr r n) s fun t => SameRegsBut [] s t ∧ SameMem s t ∧ Falls 4 s t ∧
      (s.cfg.hasFpu = true → s.cfg.pcLimit512 = false → s.fNPV = false →
        ∀ p ∈ ([(0, 0, 0xFFFFFFFF), (0, 1, 0x000F00FF), (0, 2, 0xFFFFFFFF), (0, 3, 0x000F00FF), (0, 11, 0xFF),
            (0, 12, 0xFFFFFFFC), (0, 13, 0xFFFFFFFF), (0, 14, 0xFFFFFFFF), (0, 16, 0xFFFFFFFF), (0, 17, 0x000F00FF),
            (0, 20, 0xFFFFFFFE), (0x10, 1, 1), (0x10, 3, 0xFFFFE000), (0x1000, 0, 0xFF), (0x1000, 1, 0xFFFFFFFF),
            (0x1000, 2, 0xFFFFFFFE), (0x1000, 4, 0x7E), (0x1000, 5, 0xFFFFFFFF), (0x1000, 6, 0xFFFFFFFF),
            (0x1000, 24, 0xFFFFFFFF), (0x1000, 25, 0xFFFFFFFF), (0x1000, 27, 0x117), (0x1001, 2, 0xFFFFFFFF),
            (0x1001, 7, 0xFFFFFFF3), (0x1001, 15, 0xFFFFFFF3), (0x1001, 17, 0xFFFFFFF6), (0x1010, 27, 0xFFFFFFF6),
            (0x2000, 6, 0xFF3FFFFF), (0x2000, 7, 0x1FFFFFFE), (0x2000, 9, 0xFF), (0x2000, 10, 0x31F), (0x2000, 8, 0xBF1F),
            (0, 28, 0xFFFFFFFF), (0, 29, 0xFFFFFFFF)] : List (Word × BitVec 5 × Word)),
          s.main.bsel = p.1 → n = p.2.1 → t.readSys (t.sysReg n) = s.reg r &&& p.2.2)) ∧
    (Gives (.stsr n r) s fun t => (s.sysReg n ≠ .reserved → Holds t r (s.readSys (s.sysReg n))) ∧ Falls 4 s t ∧
      OnlyRegsFree [r] 0 s t)

/-- LDSR to a system register with an action of its own does what its rule says and nothing else. That reserved bits read 0 is log entry 12, the positions of AUE and SPS log entry 6, that T of an area stores what is written D20 (log entry 15). -/
def Obligations.SpecialRegisterWrites : Prop :=
  ∀ (s : State) (r : Reg) (n : BitVec 5),
    let w := s.reg r
    let b := s.main.bsel
    let writes (P : State → Prop) : Prop := Gives (.ldsr r n) s fun t =>
      Falls 4 s t ∧ SameRegsBut [] s t ∧ t.mem = s.mem ∧ t.ppu = s.ppu ∧ SameRest s t ∧ t.free = s.free ∧ P t
    let plain (t : State) : Prop := t.psw = s.psw ∧ t.tsu = s.tsu
    let toMain (m : MainRegs) : Prop := writes fun t => t.main = m ∧ t.prot = s.prot ∧ t.fpu = s.fpu ∧ plain t
    let toLower (P : ProtRegs → Prop) (stack : Bool) : Prop := writes fun t =>
      P t.prot ∧ t.readSys (t.sysReg n) = (w &&& 0xFFFFFFF5 ||| if stack then 2 else 0) ∧ t.main = s.main ∧
        t.fpu = s.fpu ∧ plain t
    let free := !s.prot.mpm.getLsbD s.cfg.spsBit
    (n = 5 → b = 0 ∨ b = 0xFF00 ∨ b = 0xFFFF → writes fun t =>
      t.psw = (if s.fNPV then s.psw &&& ~~~0x3F#32 ||| w &&& 0x3F else w) &&& s.pswAllowed ∧
        t.main = s.main ∧ t.prot = s.prot ∧ t.fpu = s.fpu ∧ (t.fID = s.fID → t.tsu = s.tsu)) ∧
    (s.fNPV = false →
      (n = 31 → toMain { s.main with bsel := w &&& 0xFFFF }) ∧ (n = 30 → toMain { s.main with dbwr := w }) ∧
      (b = 0x10 → n = 0 →
        toMain (if w.getLsbD 0 then { s.main with ehCfg := s.main.swCfg, ehBase := s.main.swBase } else s.main)) ∧
      ((b = 0 ∧ n = 4) ∨ (b = 0x11 ∧ (n = 1 ∨ n = 2 ∨ n = 3)) → toMain s.main) ∧
      (b = 0x1001 ∨ b = 0x1010 →
        (n = 0 → writes fun t =>
          t.prot = { s.prot with mpm := w &&& (1#32 ||| 1#32 <<< s.cfg.aueBit ||| 1#32 <<< s.cfg.spsBit) } ∧
            t.psw = s.psw &&& t.pswAllowed ∧ t.main = s.main ∧ t.fpu = s.fpu ∧
            (t.mpe = false → ∀ c ∈ t.tsu.counters.toList, c.act = false) ∧ (t.mpe = true → t.tsu = s.tsu)) ∧
        (n = 1 → writes fun t =>
          t.prot = { s.prot with ipa := t.prot.ipa, dpa := t.prot.dpa } ∧ t.main = s.main ∧ t.fpu = s.fpu ∧ plain t ∧
            (∀ k : Fin 5, t.prot.ipa.get k = { s.prot.ipa.get k with
              lower := (s.prot.ipa.get k).lower &&& (if w.getLsbD 0 then ~~~1#32 else 0xFFFFFFFF) }) ∧
            (∀ k : Fin 6, t.prot.dpa.get k = { s.prot.dpa.get k with
              lower := (s.prot.dpa.get k).lower &&& (if w.getLsbD 0 then ~~~1#32 else 0xFFFFFFFF) })) ∧
        (∀ k : Fin 5, n.toNat = 6 + 2 * k.val → toLower (fun p => p = { s.prot with ipa := p.ipa } ∧
          (p.ipa.get k).upper = (s.prot.ipa.get k).upper ∧ ∀ j, j ≠ k → p.ipa.get j = s.prot.ipa.get j) free) ∧
        (∀ k : Fin 6, n.toNat = 16 + 2 * k.val → toLower (fun p => p = { s.prot with dpa := p.dpa } ∧
          (p.dpa.get k).upper = (s.prot.dpa.get k).upper ∧ ∀ j, j ≠ k → p.dpa.get j = s.prot.dpa.get j)
          (k == 0 || free))) ∧
      (b = 0x2000 → n = 11 → s.cfg.hasFpu = true → writes fun t =>
        t.fpu = { s.fpu with fpec := s.fpu.fpec &&& w } ∧ t.main = s.main ∧ t.prot = s.prot ∧ plain t))

/-- A change of ID, an exception and a return start and stop the counters that supervise them. That RETI changes no runtime counter is D32, that DI and EI leave a counter with CTM = 11 the model's choice (log entry 16). -/
def Obligations.DiStartsLockCounters : Prop :=
  ∀ (s : State) (k : Nat) (h : k < 6) (v5 : BitVec 5) (v4 : BitVec 4), s.mpe = true →
    let c := s.tsu.counters[k]
    let becomes (i : Instr) (P : Counter → Prop) : Prop := Gives i s fun t => P t.tsu.counters[k]
    let saved (act ei fe : Bool) (d : Counter) : Prop :=
      d.act = act ∧ d.eiact = ei ∧ d.feact = fe ∧ d.cfg &&& ~~~7#32 = c.cfg &&& ~~~7#32 ∧ d = { c with cfg := d.cfg }
    (s.fID = false → Gives .di s fun t =>
      (c.ctm = 0b01 → t.tsu.counters[k].act = true ∧ t.tsu.counters[k].cnt = c.rld) ∧
      (c.ctm ≠ 0b01 → t.tsu.counters[k] = c)) ∧
    (s.fID = true → Gives .ei s fun t =>
      (c.ctm = 0b01 → t.tsu.counters[k].act = false ∧ t.tsu.counters[k].cnt = c.cnt) ∧
      (c.ctm ≠ 0b01 → t.tsu.counters[k] = c)) ∧
    (c.ctm = 0b01 → s.fID = false → becomes (.trap v5) (fun d => d.act = true ∧ d.cnt = c.rld) ∧
      becomes (.fetrap v4) (fun d => d.act = true ∧ d.cnt = c.rld)) ∧
    (c.ctm = 0b10 → becomes (.trap v5) (saved false c.act c.feact) ∧ becomes (.fetrap v4) (saved false c.eiact c.act) ∧
      becomes .eiret (saved c.eiact c.eiact c.feact) ∧ becomes .feret (saved c.feact c.eiact c.feact) ∧
      becomes .ctret (fun d => d = c) ∧ becomes .reti (fun d => d = c)) ∧
    (c.ctm = 0b00 → ∀ i ∈ [Instr.trap v5, .fetrap v4, .eiret, .feret, .ctret, .reti], becomes i (fun d => d = c))

/-- A counter counts its clocks by its resolution, wraps, matches and reloads; a store sets it up; a match with EXM requests TSI. The prescaler phase is the model's own (log entry 16). -/
def Obligations.CounterCounts : Prop :=
  ∀ (s : State) (k : Fin 6),
    let c := s.tsu.counters.get k
    (s.halted = true → s.input.reset = false → (s.dropInput.requests s.input).any Request.releases = false →
      let clocks := if s.cfg.tsEventSources.get k then s.input.events.get k else s.input.extraClocks + 1
      let period := 4 ^ c.res.toNat
      let n := (c.phase % period + clocks) / period
      let after (j : Nat) : BitVec 28 := if c.udm then c.cnt - BitVec.ofNat 28 j else c.cnt + BitVec.ofNat 28 j
      ∃ t, Machine.step s = .next t ∧
        let d := t.tsu.counters.get k
        (c.act = false → d = c) ∧
        (c.act = true → c.res.toNat ≤ 5 →
          d.phase = (c.phase % period + clocks) % period ∧ d.cmp = c.cmp ∧ d.rld = c.rld ∧
          d.cfg &&& ~~~0x500#32 = c.cfg &&& ~~~0x500#32 ∧
          ((∀ j < n, after (j + 1) ≠ c.cmp) → d.cnt = after n ∧ d.vs = c.vs ∧
            d.cfg.getLsbD 10 = (c.cfg.getLsbD 10 ||
              if c.udm then decide (c.cnt.toNat < n) else decide (2 ^ 28 ≤ c.cnt.toNat + n))) ∧
          (n = 1 → after 1 = c.cmp → d.vs = true ∧ d.cnt = if c.arm then c.rld else c.cmp))) ∧
    (s.tsu.request = true ↔ s.tsu.tsec.getLsbD 0 = false ∧
      ∃ j : Fin 6, (s.tsu.counters.get j).exm = true ∧ (s.tsu.counters.get j).vs = true) ∧
    (∀ (r1 r2 : Reg) (d15 : BitVec 15),
      let a := s.reg r1 + BitVec.ofInt 32 (2 * d15.toInt)
      let v := s.reg r2
      a = 0xFFFF5020 + BitVec.ofNat 32 (16 * k.val) → s.permits a 4 true (r1 == spReg) = true →
      ¬s.Stopped a 4 true (r1 == spReg) → Gives (.stW r2 d15 r1) s fun t =>
        t.tsu.counters.get k = { c with
          cfg := (v &&& 0x07370007 ||| c.cfg &&& v &&& 0x700 ||| c.cfg &&& ~~~0x07370707#32) &&&
            (if s.mpe then 0xFFFFFFFF else ~~~1#32)
          cnt := if v.getLsbD 3 then c.rld else c.cnt } ∧
        (∀ j, j ≠ k → t.tsu.counters.get j = s.tsu.counters.get j) ∧ t.tsu.tsec = s.tsu.tsec ∧ Falls 4 s t ∧
        SameRegsBut [] s t ∧ t.psw = s.psw ∧ t.mem = s.mem ∧ t.main = s.main ∧ t.prot = s.prot ∧ t.ppu = s.ppu ∧
        t.fpu = s.fpu ∧ SameRest s t)

/-- The floating-point arithmetic instructions put their rounded result in their destination. The formats, the signs of zeros and D60 are log entry 22, the product overflow of a fused operation log entry 24. -/
def Obligations.FpArithmetic : Prop :=
  ∀ (s : State) (r1 r2 r3 r4 : Reg) (p1 p2 p3 : Pair),
    let a := s.fpS r1
    let b := s.fpS r2
    let c := s.fpS r3
    let d := s.fpD p1
    let e := s.fpD p2
    let f := s.fpEnv
    FpToReg (.addfS r1 r2 r3) s (single.deliver f [b, a] (b.val.add a.val)) r3 ∧
    FpToReg (.subfS r1 r2 r3) s (single.deliver f [b, a] (b.val.add a.val.neg)) r3 ∧
    FpToReg (.mulfS r1 r2 r3) s (single.deliver f [b, a] (b.val.mul a.val)) r3 ∧
    FpToReg (.divfS r1 r2 r3) s (single.deliver f [b, a] (b.val.div single a.val)) r3 ∧
    FpToReg (.maxfS r1 r2 r3) s (single.extreme f true b a) r3 ∧
    FpToReg (.minfS r1 r2 r3) s (single.extreme f false b a) r3 ∧
    FpToPair (.addfD p1 p2 p3) s (double.deliver f [e, d] (e.val.add d.val)) p3 ∧
    FpToPair (.subfD p1 p2 p3) s (double.deliver f [e, d] (e.val.add d.val.neg)) p3 ∧
    FpToPair (.mulfD p1 p2 p3) s (double.deliver f [e, d] (e.val.mul d.val)) p3 ∧
    FpToPair (.divfD p1 p2 p3) s (double.deliver f [e, d] (e.val.div double d.val)) p3 ∧
    FpToPair (.maxfD p1 p2 p3) s (double.extreme f true e d) p3 ∧
    FpToPair (.minfD p1 p2 p3) s (double.extreme f false e d) p3 ∧
    FpToReg (.maddfS r1 r2 r3 r4) s (single.deliver f [b, a, c] (Fp.fused single f (b.val.mul a.val) c.val)) r4 ∧
    FpToReg (.msubfS r1 r2 r3 r4) s (single.deliver f [b, a, c] (Fp.fused single f (b.val.mul a.val) c.val.neg)) r4 ∧
    FpToReg (.nmaddfS r1 r2 r3 r4) s
      (single.deliver f [b, a, c] (negated (Fp.fused single f (b.val.mul a.val) c.val))) r4 ∧
    FpToReg (.nmsubfS r1 r2 r3 r4) s
      (single.deliver f [b, a, c] (negated (Fp.fused single f (b.val.mul a.val) c.val.neg))) r4

/-- ABSF, NEGF, SQRTF, RECIPF, RSQRTF and the format conversions put their result in their destination. The formats are log entry 22, the accuracy of RECIPF and RSQRTF log entry 25. -/
def Obligations.FpOneOperand : Prop :=
  ∀ (s : State) (r2 r3 : Reg) (p2 p3 : Pair),
    let a := s.fpS r2
    let d := s.fpD p2
    let f := s.fpEnv
    FpToReg (.absfS r2 r3) s (single.deliver f [a] (a.val.abs, 0)) r3 ∧
    FpToReg (.negfS r2 r3) s (single.deliver f [a] (a.val.neg, 0)) r3 ∧
    FpToReg (.sqrtfS r2 r3) s (single.deliver f [a] (a.val.sqrt single)) r3 ∧
    FpToReg (.recipfS r2 r3) s (single.approximate f [a] (a.val.recip single)) r3 ∧
    FpToReg (.rsqrtfS r2 r3) s (single.approximate f [a] (a.val.rsqrt single)) r3 ∧
    FpToReg (.cvtfDs p2 r3) s (single.deliver f [d] (d.val, 0)) r3 ∧
    FpToPair (.absfD p2 p3) s (double.deliver f [d] (d.val.abs, 0)) p3 ∧
    FpToPair (.negfD p2 p3) s (double.deliver f [d] (d.val.neg, 0)) p3 ∧
    FpToPair (.sqrtfD p2 p3) s (double.deliver f [d] (d.val.sqrt double)) p3 ∧
    FpToPair (.recipfD p2 p3) s (double.approximate f [d] (d.val.recip double)) p3 ∧
    FpToPair (.rsqrtfD p2 p3) s (double.approximate f [d] (d.val.rsqrt double)) p3 ∧
    FpToPair (.cvtfSd r2 p3) s (double.deliver f [a] (a.val, 0)) p3

/-- CEILF, FLOORF, TRNCF and CVTF to an integer put the rounded integer in their destination. The formats are log entry 22. -/
def Obligations.FpToIntegerInstructions : Prop :=
  ∀ (s : State) (r2 r3 : Reg) (p2 p3 : Pair),
    let a := s.fpS r2
    let d := s.fpD p2
    let group (ready : Prop) (dir : Direction) (dl dul : Pair → Pair → Instr) (dw duw : Pair → Reg → Instr)
        (sl sul : Reg → Pair → Instr) (sw suw : Reg → Reg → Instr) : Prop :=
      ready → FpGivesPair (dl p2 p3) s (toInteger dir fmtL d) p3 ∧ FpGivesPair (dul p2 p3) s (toInteger dir fmtUL d) p3 ∧
        FpGivesReg (dw p2 r3) s (toInteger dir fmtW d) r3 ∧ FpGivesReg (duw p2 r3) s (toInteger dir fmtUW d) r3 ∧
        FpGivesPair (sl r2 p3) s (toInteger dir fmtL a) p3 ∧ FpGivesPair (sul r2 p3) s (toInteger dir fmtUL a) p3 ∧
        FpGivesReg (sw r2 r3) s (toInteger dir fmtW a) r3 ∧ FpGivesReg (suw r2 r3) s (toInteger dir fmtUW a) r3
    group s.fpDirected .up .ceilfDl .ceilfDul .ceilfDw .ceilfDuw .ceilfSl .ceilfSul .ceilfSw .ceilfSuw ∧
    group s.fpDirected .down .floorfDl .floorfDul .floorfDw .floorfDuw .floorfSl .floorfSul .floorfSw .floorfSuw ∧
    group s.fpDirected .zero .trncfDl .trncfDul .trncfDw .trncfDuw .trncfSl .trncfSul .trncfSw .trncfSuw ∧
    group s.fpReady .nearest .cvtfDl .cvtfDul .cvtfDw .cvtfDuw .cvtfSl .cvtfSul .cvtfSw .cvtfSuw

/-- CVTF from an integer puts the rounded number in its destination. The formats are log entry 22. -/
def Obligations.FpFromIntegerInstructions : Prop :=
  ∀ (s : State) (r2 r3 : Reg) (p2 p3 : Pair),
    let f := s.fpEnv
    FpToPair (.cvtfLd p2 p3) s (double.ofInteger f (s.pair p2).toInt) p3 ∧
    FpToReg (.cvtfLs p2 r3) s (single.ofInteger f (s.pair p2).toInt) r3 ∧
    FpToPair (.cvtfUld p2 p3) s (double.ofInteger f ((s.pair p2).toNat : Int)) p3 ∧
    FpToReg (.cvtfUls p2 r3) s (single.ofInteger f ((s.pair p2).toNat : Int)) r3 ∧
    FpToPair (.cvtfWd r2 p3) s (double.ofInteger f (s.reg r2).toInt) p3 ∧
    FpToReg (.cvtfWs r2 r3) s (single.ofInteger f (s.reg r2).toInt) r3 ∧
    FpToPair (.cvtfUwd r2 p3) s (double.ofInteger f ((s.reg r2).toNat : Int)) p3 ∧
    FpToReg (.cvtfUws r2 r3) s (single.ofInteger f ((s.reg r2).toNat : Int)) r3

/-- CMPF writes a condition bit, CMOVF chooses by one, TRFSR moves one to Z. The reading of S-NaN is a parameter (log entry 2). -/
def Obligations.FpCompareAndMove : Prop :=
  (∀ (s : State) (fc : BitVec 4) (n : BitVec 3) (r1 r2 r3 : Reg) (p1 p2 p3 : Pair),
    let compares (i : Instr) (o : FpOut) : Prop :=
      s.fpReady → s.fpEnabled o.det = false → Gives i s fun t =>
        t.fpu = { s.fpu with
          fpsr := putBit (s.fpu.fpsr ||| (o.det.setWidth 5).setWidth 32) (24 + n.toNat) (o.value.getLsbD 0) } ∧
        SameRegsBut [] s t ∧ t.psw = s.psw ∧ SameMem s t ∧ SameSystem s t ∧ SameRest s t ∧ Falls 4 s t
    let bit := s.fpu.fpsr.getLsbD (24 + n.toNat)
    let v := if bit then s.pair p1 else s.pair p2
    compares (.cmpfS fc r2 r1 n) (compareFp s.fpEnv fc (s.fpS r2) (s.fpS r1)) ∧
    compares (.cmpfD fc p2 p1 n) (compareFp s.fpEnv fc (s.fpD p2) (s.fpD p1)) ∧
    (s.cfg.hasFpu = true → s.fpInvalid = false →
      Moves (.cmovfS n r1 r2 r3) s r3 (if bit then s.reg r1 else s.reg r2) 4 ∧
      Gives (.cmovfD n p1 p2 p3) s fun t => Holds t p3.lo (v.extractLsb' 0 32) ∧ Holds t p3.hi (v.extractLsb' 32 32) ∧
        Falls 4 s t ∧ OnlyRegs [p3.lo, p3.hi] 0 s t) ∧
    (s.cfg.hasFpu = true → Gives (.trfsr n) s fun t => t.fZ = bit ∧ Falls 4 s t ∧ OnlyRegs [] 1 s t)) ∧
  ∀ (f : Fmt) (env : FpEnv) (v w : DWord), f = single ∨ f = double →
    let x := f.unpack v
    let y := f.unpack w
    let holds (fc : BitVec 4) : Prop := (compareFp env fc x y).value.getLsbD 0 = true
    let un : Prop := x.val.isNan = true ∨ y.val.isNan = true
    let lt : Prop := x.val.Below y.val
    let eq : Prop := ¬un ∧ ¬x.val.Below y.val ∧ ¬y.val.Below x.val
    ¬holds 0 ∧ (holds 1 ↔ un) ∧ (holds 2 ↔ eq) ∧ (holds 3 ↔ un ∨ eq) ∧ (holds 4 ↔ lt) ∧ (holds 5 ↔ un ∨ lt) ∧
    (holds 6 ↔ lt ∨ eq) ∧ (holds 7 ↔ un ∨ lt ∨ eq) ∧ ¬holds 8 ∧ (holds 9 ↔ un) ∧ (holds 10 ↔ eq) ∧
    (holds 11 ↔ un ∨ eq) ∧ (holds 12 ↔ lt) ∧ (holds 13 ↔ un ∨ lt) ∧ (holds 14 ↔ lt ∨ eq) ∧ (holds 15 ↔ un ∨ lt ∨ eq) ∧
    (env.cfg.cmpfSnanAlwaysInvalid = false → ∀ fc : BitVec 4,
      (fc.getLsbD 3 = true ∧ un → (compareFp env fc x y).det = Det.v) ∧
      (¬(fc.getLsbD 3 = true ∧ un) → (compareFp env fc x y).det = 0))

/-- An enabled floating-point exception leaves the destination and is taken or reported -/
def Obligations.FpEnabledException : Prop :=
  ∀ (s : State) (r1 r2 r3 r4 : Reg) (p1 p2 p3 : Pair) (fc : BitVec 4) (n : BitVec 3),
    let f := s.fpEnv
    let a := s.fpS r1
    let b := s.fpS r2
    let c := s.fpS r3
    let d := s.fpD p1
    let e := s.fpD p2
    let S (i : Instr) (o : FpOut) : Prop := FpRaises i s .single o.det
    let D (i : Instr) (o : FpOut) : Prop := FpRaises i s .double o.det
    let group (dir : Direction) (dl dul : Pair → Pair → Instr) (dw duw : Pair → Reg → Instr)
        (sl sul : Reg → Pair → Instr) (sw suw : Reg → Reg → Instr) : Prop :=
      D (dl p2 p3) (toInteger dir fmtL e) ∧ D (dul p2 p3) (toInteger dir fmtUL e) ∧
      D (dw p2 r3) (toInteger dir fmtW e) ∧ D (duw p2 r3) (toInteger dir fmtUW e) ∧
      S (sl r2 p3) (toInteger dir fmtL b) ∧ S (sul r2 p3) (toInteger dir fmtUL b) ∧
      S (sw r2 r3) (toInteger dir fmtW b) ∧ S (suw r2 r3) (toInteger dir fmtUW b)
    S (.addfS r1 r2 r3) (single.deliver f [b, a] (b.val.add a.val)) ∧
    S (.subfS r1 r2 r3) (single.deliver f [b, a] (b.val.add a.val.neg)) ∧
    S (.mulfS r1 r2 r3) (single.deliver f [b, a] (b.val.mul a.val)) ∧
    S (.divfS r1 r2 r3) (single.deliver f [b, a] (b.val.div single a.val)) ∧
    S (.maxfS r1 r2 r3) (single.extreme f true b a) ∧ S (.minfS r1 r2 r3) (single.extreme f false b a) ∧
    D (.addfD p1 p2 p3) (double.deliver f [e, d] (e.val.add d.val)) ∧
    D (.subfD p1 p2 p3) (double.deliver f [e, d] (e.val.add d.val.neg)) ∧
    D (.mulfD p1 p2 p3) (double.deliver f [e, d] (e.val.mul d.val)) ∧
    D (.divfD p1 p2 p3) (double.deliver f [e, d] (e.val.div double d.val)) ∧
    D (.maxfD p1 p2 p3) (double.extreme f true e d) ∧ D (.minfD p1 p2 p3) (double.extreme f false e d) ∧
    S (.maddfS r1 r2 r3 r4) (single.deliver f [b, a, c] (Fp.fused single f (b.val.mul a.val) c.val)) ∧
    S (.msubfS r1 r2 r3 r4) (single.deliver f [b, a, c] (Fp.fused single f (b.val.mul a.val) c.val.neg)) ∧
    S (.nmaddfS r1 r2 r3 r4) (single.deliver f [b, a, c] (negated (Fp.fused single f (b.val.mul a.val) c.val))) ∧
    S (.nmsubfS r1 r2 r3 r4) (single.deliver f [b, a, c] (negated (Fp.fused single f (b.val.mul a.val) c.val.neg))) ∧
    S (.absfS r2 r3) (single.deliver f [b] (b.val.abs, 0)) ∧ D (.absfD p2 p3) (double.deliver f [e] (e.val.abs, 0)) ∧
    S (.negfS r2 r3) (single.deliver f [b] (b.val.neg, 0)) ∧ D (.negfD p2 p3) (double.deliver f [e] (e.val.neg, 0)) ∧
    S (.sqrtfS r2 r3) (single.deliver f [b] (b.val.sqrt single)) ∧
    D (.sqrtfD p2 p3) (double.deliver f [e] (e.val.sqrt double)) ∧
    S (.recipfS r2 r3) (single.approximate f [b] (b.val.recip single)) ∧
    D (.recipfD p2 p3) (double.approximate f [e] (e.val.recip double)) ∧
    S (.rsqrtfS r2 r3) (single.approximate f [b] (b.val.rsqrt single)) ∧
    D (.rsqrtfD p2 p3) (double.approximate f [e] (e.val.rsqrt double)) ∧
    D (.cvtfDs p2 r3) (single.deliver f [e] (e.val, 0)) ∧ D (.cvtfSd r2 p3) (double.deliver f [b] (b.val, 0)) ∧
    D (.cvtfLd p2 p3) (double.ofInteger f (s.pair p2).toInt) ∧ S (.cvtfLs p2 r3) (single.ofInteger f (s.pair p2).toInt) ∧
    D (.cvtfUld p2 p3) (double.ofInteger f ((s.pair p2).toNat : Int)) ∧
    S (.cvtfUls p2 r3) (single.ofInteger f ((s.pair p2).toNat : Int)) ∧
    D (.cvtfWd r2 p3) (double.ofInteger f (s.reg r2).toInt) ∧ S (.cvtfWs r2 r3) (single.ofInteger f (s.reg r2).toInt) ∧
    D (.cvtfUwd r2 p3) (double.ofInteger f ((s.reg r2).toNat : Int)) ∧
    S (.cvtfUws r2 r3) (single.ofInteger f ((s.reg r2).toNat : Int)) ∧
    group .up .ceilfDl .ceilfDul .ceilfDw .ceilfDuw .ceilfSl .ceilfSul .ceilfSw .ceilfSuw ∧
    group .down .floorfDl .floorfDul .floorfDw .floorfDuw .floorfSl .floorfSul .floorfSw .floorfSuw ∧
    group .zero .trncfDl .trncfDul .trncfDw .trncfDuw .trncfSl .trncfSul .trncfSw .trncfSuw ∧
    group .nearest .cvtfDl .cvtfDul .cvtfDw .cvtfDuw .cvtfSl .cvtfSul .cvtfSw .cvtfSuw ∧
    S (.cmpfS fc r2 r1 n) (compareFp f fc b a) ∧ D (.cmpfD fc p2 p1 n) (compareFp f fc e d)

/-- Floating-point instructions do nothing while FPI is reported, and are unusable without an FPU. What invalidation covers is D58 (log entry 22). -/
def Obligations.FpInvalidationAndUnusable : Prop :=
  ∀ (s : State) (fc : BitVec 4) (n : BitVec 3) (r1 r2 r3 r4 : Reg) (p1 p2 p3 : Pair),
    let S (i : Instr) : Prop := FpInvalidated i s ∧ FpUnusable i s 0x530
    let D (i : Instr) : Prop := FpInvalidated i s ∧ FpUnusable i s 0x531
    (∀ i ∈ ([.addfS, .subfS, .mulfS, .divfS, .maxfS, .minfS] : List (Reg → Reg → Reg → Instr)), S (i r1 r2 r3)) ∧
    (∀ i ∈ ([.addfD, .subfD, .mulfD, .divfD, .maxfD, .minfD] : List (Pair → Pair → Pair → Instr)), D (i p1 p2 p3)) ∧
    (∀ i ∈ ([.maddfS, .msubfS, .nmaddfS, .nmsubfS] : List (Reg → Reg → Reg → Reg → Instr)), S (i r1 r2 r3 r4)) ∧
    (∀ i ∈ ([.absfS, .negfS, .sqrtfS, .recipfS, .rsqrtfS, .cvtfWs, .cvtfUws, .ceilfSw, .ceilfSuw, .floorfSw, .floorfSuw,
      .trncfSw, .trncfSuw, .cvtfSw, .cvtfSuw] : List (Reg → Reg → Instr)), S (i r2 r3)) ∧
    (∀ i ∈ ([.ceilfSl, .ceilfSul, .floorfSl, .floorfSul, .trncfSl, .trncfSul, .cvtfSl, .cvtfSul] :
      List (Reg → Pair → Instr)), S (i r2 p3)) ∧
    (∀ i ∈ ([.cvtfLs, .cvtfUls] : List (Pair → Reg → Instr)), S (i p2 r3)) ∧
    (∀ i ∈ ([.absfD, .negfD, .sqrtfD, .recipfD, .rsqrtfD, .cvtfLd, .cvtfUld, .ceilfDl, .ceilfDul, .floorfDl, .floorfDul,
      .trncfDl, .trncfDul, .cvtfDl, .cvtfDul] : List (Pair → Pair → Instr)), D (i p2 p3)) ∧
    (∀ i ∈ ([.ceilfDw, .ceilfDuw, .floorfDw, .floorfDuw, .trncfDw, .trncfDuw, .cvtfDw, .cvtfDuw, .cvtfDs] :
      List (Pair → Reg → Instr)), D (i p2 r3)) ∧
    (∀ i ∈ ([.cvtfSd, .cvtfWd, .cvtfUwd] : List (Reg → Pair → Instr)), D (i r2 p3)) ∧
    S (.cmpfS fc r2 r1 n) ∧ D (.cmpfD fc p2 p1 n) ∧ S (.cmovfS n r1 r2 r3) ∧ D (.cmovfD n p1 p2 p3) ∧
    FpUnusable (.trfsr n) s 0x530

/-- Sums, differences and products are exact before rounding, and comparisons compare the numbers -/
def Obligations.FpExactOperations : Prop :=
  ∀ x y : Fp, x.Number → y.Number →
    (x.add y).1.Number ∧ (x.mul y).1.Number ∧ (x.add y).1.toRat = x.toRat + y.toRat ∧ (x.add y).2 = 0 ∧ (x.add y.neg).1.toRat = x.toRat - y.toRat ∧
    (x.mul y).1.toRat = x.toRat * y.toRat ∧ (x.mul y).2 = 0 ∧ (x.less y = true ↔ x.toRat < y.toRat)

/-- Sums, products, quotients and fused operations of NaNs, infinities, zeros and denormalized numbers follow their tables. The signs of zeros, D56 and D57 are log entry 22, the product overflow log entry 24. -/
def Obligations.FpSpecialOperands : Prop :=
  ∀ (f g : Fmt) (env : FpEnv) (a b c : DWord), f = single ∨ f = double → g = single ∨ g = double →
    f.Fits a → f.Fits b → f.Fits c →
    let q := if f = single then env.cfg.qnanS.setWidth 64 else env.cfg.qnanD
    let A := f.kind a
    let B := f.kind b
    let neg := A.negative ^^ B.negative
    let invalid : FpOut := ⟨q, Det.v, 0⟩
    let flushed (ks : List FpKind) : Det := if ks.any FpKind.isDenormal then Det.i else 0
    let two (r : Fp × Det) := f.deliver env [f.unpack b, f.unpack a] r
    let plain (v : DWord) : FpOut := ⟨v, flushed [A, B], 0⟩
    let sums (o : FpOut) (a : DWord) : Prop :=
      let A := f.kind a
      if B.isInf && A.isInf && B.negative != A.negative then o = invalid
      else if B.isInf then o = plain (f.infOf B.negative)
      else if A.isInf then o = plain (f.infOf A.negative)
      else if B.isZero && A.isZero then o = plain (f.zeroOf (B.negative && A.negative))
      else if A.isZero then o = plain b
      else if B.isZero then o = plain a
      else a = b ^^^ f.signBit → o = plain (f.zeroOf false)
    let noProduct := B.isInf && A.isZero || B.isZero && A.isInf
    let product := f.round env ((f.unpack b).val.mul (f.unpack a).val).1
    let overflows : Prop := env.cfg.fmaProductOverflowCheck = true ∧ product.2 &&& Det.o ≠ 0
    let fuses (o : FpOut) (c : DWord) : Prop :=
      let C := f.kind c
      let plain (v : DWord) : FpOut := ⟨v, flushed [A, B, C], 0⟩
      if noProduct then o = invalid
      else if B.isInf || A.isInf then o = if C.isInf && C.negative != neg then invalid else plain (f.infOf neg)
      else if C.isInf then
        (overflows → o = if C.negative != neg then invalid else ⟨f.infOf neg, product.2, 0⟩) ∧
          (¬overflows → o = plain (f.infOf C.negative))
      else if B.isZero || A.isZero then o = plain (if C.isZero then f.zeroOf (neg && C.negative) else c)
      else True
    let fused (v : Fp) :=
      f.deliver env [f.unpack b, f.unpack a, f.unpack c] (Fp.fused f env ((f.unpack b).val.mul (f.unpack a).val) v)
    (∀ (ws : List DWord) (r : Fp × Det),
      ((∃ w ∈ ws, g.kind w = .nan false) → f.deliver env (ws.map g.unpack) r = invalid) ∧
      ((∀ w ∈ ws, g.kind w ≠ .nan false) → (∃ w ∈ ws, g.kind w = .nan true) →
        f.deliver env (ws.map g.unpack) r = ⟨q, 0, 0⟩) ∧
      ((∀ w ∈ ws, (g.kind w).isNan = false) → r.1.isNan = false →
        let o := f.deliver env (ws.map g.unpack) r
        f.deliver env (ws.map g.unpack) (r.1.neg, r.2) = ⟨o.value ^^^ f.signBit, o.det, 0⟩)) ∧
    (A.isNan = false → B.isNan = false →
      sums (two ((f.unpack b).val.add (f.unpack a).val)) a ∧
      sums (two ((f.unpack b).val.add (f.unpack a).val.neg)) (a ^^^ f.signBit) ∧
      (let o := two ((f.unpack b).val.mul (f.unpack a).val)
        if noProduct then o = invalid
        else if B.isInf || A.isInf then o = plain (f.infOf neg)
        else if B.isZero || A.isZero then o = plain (f.zeroOf neg)
        else True) ∧
      (let o := two ((f.unpack b).val.div f (f.unpack a).val)
        if B.isInf && A.isInf || B.isZero && A.isZero then o = invalid
        else if B.isInf then o = plain (f.infOf neg)
        else if A.isZero then o = ⟨f.infOf neg, Det.z, 0⟩
        else if A.isInf || B.isZero then o = plain (f.zeroOf neg)
        else True) ∧
      ((f.kind c).isNan = false →
        fuses (fused (f.unpack c).val) c ∧ fuses (fused (f.unpack c).val.neg) (c ^^^ f.signBit)))

/-- MAXF, MINF and the operations on one operand follow their tables, RECIPF and RSQRTF within the error of the product. The signs of zeros, D56, D57 and D60 are log entry 22, the accuracy of the reciprocals and U35 log entry 25. -/
def Obligations.FpSpecialOneOperand : Prop :=
  ∀ (f g : Fmt) (env : FpEnv) (a b : DWord), f = single ∨ f = double → g = single ∨ g = double → f.Fits a → f.Fits b →
    let q := if f = single then env.cfg.qnanS.setWidth 64 else env.cfg.qnanD
    let A := f.kind a
    let B := f.kind b
    let x := f.unpack a
    let y := f.unpack b
    let one (r : Fp × Det) := f.deliver env [x] r
    let plain (v : DWord) : FpOut := ⟨v, if A.isDenormal then Det.i else 0, 0⟩
    let near (o exact : FpOut) (neg : Bool) : Prop :=
      o.det = exact.det ∧ exact.det &&& Det.i ≠ 0 ∧
        (exact.det &&& (Det.o ||| Det.u) = 0 → f.kind o.value = .normal neg ∧
          o.value.toNat ≤ exact.value.toNat + env.cfg.recipApproxUlp ∧
          exact.value.toNat ≤ o.value.toNat + env.cfg.recipApproxUlp) ∧
        (exact.det &&& Det.u ≠ 0 → env.xe.getLsbD 1 = false → o.value = f.zeroOf false ∨ o.value = f.zeroOf true)
    (∀ larger : Bool,
      let o := f.extreme env larger y x
      (A = .nan false ∨ B = .nan false → o = ⟨q, Det.v, 0⟩) ∧
      (A ≠ .nan false → B ≠ .nan false → A.isNan = true ∨ B.isNan = true → o = ⟨q, 0, 0⟩) ∧
      (A.isNan = false → B.isNan = false → o.det = 0 ∧
        (A.isZero = true → B.isZero = true → A.negative ≠ B.negative →
          if A.isDenormal && B.isDenormal then o.value = f.zeroOf false ∨ o.value = f.zeroOf true
          else o.value = f.zeroOf (!larger)) ∧
        (¬(A.isZero = true ∧ B.isZero = true ∧ A.negative ≠ B.negative) →
          (y.val.Below x.val → o.value = f.flush (if larger then a else b)) ∧
          (¬y.val.Below x.val → o.value = f.flush (if larger then b else a))))) ∧
    (∀ r : Fp × Det, A.isNan = true → f.approximate env [x] r = one r) ∧
    (A.isNan = false →
      one (x.val.abs, 0) = plain (f.flush a &&& ~~~f.signBit) ∧ one (x.val.neg, 0) = plain (f.flush a ^^^ f.signBit) ∧
      (let o := one (x.val.sqrt f)
        if A.isZero then o = plain (f.zeroOf A.negative)
        else if A.negative then o = ⟨q, Det.v, 0⟩
        else if A.isInf then o = plain (f.infOf false)
        else True) ∧
      (let o := f.approximate env [x] (x.val.recip f)
        if A.isZero then o = ⟨f.infOf A.negative, Det.z, 0⟩
        else if A.isInf then o = ⟨f.zeroOf A.negative, 0, 0⟩
        else near o (one (x.val.recip f)) A.negative) ∧
      (let o := f.approximate env [x] (x.val.rsqrt f)
        if A.isZero then o = ⟨f.infOf A.negative, Det.z, 0⟩
        else if A.negative then o = ⟨q, Det.v, 0⟩
        else if A.isInf then o = ⟨f.zeroOf false, 0, 0⟩
        else near o (one (x.val.rsqrt f)) false) ∧
      (let o := g.deliver env [x] (x.val, 0)
        if A.isZero then o = ⟨g.zeroOf A.negative, if A.isDenormal then Det.i else 0, 0⟩
        else if A.isInf then o = ⟨g.infOf A.negative, 0, 0⟩
        else True))

/-- Quotients, reciprocals, square roots and fused operations are the exact result rounded once. That reciprocals are always inexact is log entry 25, the product overflow log entry 24. -/
def Obligations.FpQuotientsAndRoots : Prop :=
  ∀ (f : Fmt) (env : FpEnv) (n n' : Bool) (m m' : Nat) (e e' : Int) (c : Fp), f = single ∨ f = double →
    2 ^ f.frac ≤ m → m < 2 ^ (f.frac + 1) → 2 ^ f.frac ≤ m' → m' < 2 ^ (f.frac + 1) → c.Number →
    let x := Fp.fin n m e
    let y := Fp.fin n' m' e'
    let inRange (v : Fp × Det) : Prop := v.2 &&& (Det.o ||| Det.u) = 0
    let quotient := f.round env (x.div f y).1
    let reciprocal := f.round env (y.recip f).1
    let root := f.round env (x.sqrt f).1
    let rootReciprocal := f.round env (x.rsqrt f).1
    let product := f.round env (x.mul y).1
    let fused := Fp.fused f env (x.mul y) c
    let overflows : Prop := env.cfg.fmaProductOverflowCheck = true ∧ product.2 &&& Det.o ≠ 0
    ((x.div f y).2 = 0 ∧ (inRange quotient → f.Nearest quotient.1 quotient.2 (n ^^ n') (x.toRat / y.toRat))) ∧
    ((y.recip f).2 = Det.i ∧ (inRange reciprocal → f.Nearest reciprocal.1 reciprocal.2 n' (1 / y.toRat))) ∧
    (n = false → (x.sqrt f).2 = 0 ∧ (x.rsqrt f).2 = Det.i ∧
      (inRange root → ∃ k j, root.1 = .fin false k j ∧ f.Normal k j ∧ (2 * k - 1 : Rat) ^ 2 * (2 : Rat) ^ (2 * j) ≤ 4 * x.toRat ∧
        4 * x.toRat ≤ (2 * k + 1 : Rat) ^ 2 * (2 : Rat) ^ (2 * j) ∧
        root.2 = if (k : Rat) ^ 2 * (2 : Rat) ^ (2 * j) = x.toRat then 0 else Det.i) ∧
      (inRange rootReciprocal → ∃ k j, rootReciprocal.1 = .fin false k j ∧ f.Normal k j ∧
        (2 * k - 1 : Rat) ^ 2 * (2 : Rat) ^ (2 * j) * x.toRat ≤ 4 ∧
        4 ≤ (2 * k + 1 : Rat) ^ 2 * (2 : Rat) ^ (2 * j) * x.toRat)) ∧
    (¬overflows → fused.1.Number ∧ fused.1.toRat = x.toRat * y.toRat + c.toRat ∧ fused.2 = 0) ∧
    (overflows → fused = (.inf (n ^^ n'), product.2))

/-- Rounding gives the nearest number of the format, a zero below its range and an infinity above it. The formats are log entry 22. -/
def Obligations.FpRounding : Prop :=
  ∀ (f : Fmt) (env : FpEnv) (neg : Bool) (m : Nat) (e : Int), f = single ∨ f = double → m ≠ 0 →
    let q := (Fp.fin neg m e).toRat
    let r := f.round env (.fin neg m e)
    let below : Prop := |q| < (2 : Rat) ^ f.emin
    let beyond : Prop := (2 ^ (f.frac + 2) - 1 : Rat) * (2 : Rat) ^ ((f.bias : Int) - f.frac - 1) ≤ |q|
    (r.2 &&& Det.u ≠ 0 ↔ below) ∧ (r.2 &&& Det.o ≠ 0 ↔ beyond) ∧
    (below → r.1 = .zero neg ∧ (env.xe.getLsbD 1 = false → r.2 &&& Det.i ≠ 0)) ∧
    (beyond → r.1 = .inf neg ∧ (env.xe.getLsbD 2 = false → r.2 &&& Det.i ≠ 0)) ∧
    (¬below → ¬beyond → f.Nearest r.1 r.2 neg q ∧ f.unpack (f.pack env.cfg r.1) = ⟨r.1, false⟩)

/-- The integer rounding directions are floor, ceiling, truncation and nearest; what does not fit gives the end of the range -/
def Obligations.FpIntegerRounding : Prop :=
  (∀ (neg : Bool) (m : Nat) (e : Int),
    let q := (Fp.fin neg m e).toRat
    (roundInt .down neg m e).1 = ⌊q⌋ ∧ (roundInt .up neg m e).1 = ⌈q⌉ ∧
    (roundInt .zero neg m e).1 = (if q < 0 then ⌈q⌉ else ⌊q⌋) ∧
    2 * |((roundInt .nearest neg m e).1 : Rat) - q| ≤ 1 ∧
    (2 * |((roundInt .nearest neg m e).1 : Rat) - q| = 1 → (roundInt .nearest neg m e).1 % 2 = 0) ∧
    ∀ d, (roundInt d neg m e).2 = true ↔ (⌊q⌋ : Rat) ≠ q) ∧
  ∀ (d : Direction) (neg flushed : Bool) (m : Nat) (e : Int),
    ∀ p ∈ ([(fmtW, -2 ^ 31, 2 ^ 31 - 1), (fmtUW, 0, 2 ^ 32 - 1), (fmtL, -2 ^ 63, 2 ^ 63 - 1), (fmtUL, 0, 2 ^ 64 - 1)] :
      List (IntFmt × Int × Int)),
      let lo := p.2.1
      let hi := p.2.2
      let n := (roundInt d neg m e).1
      let q := (Fp.fin neg m e).toRat
      (∀ quiet, toInteger d p.1 ⟨.nan quiet, flushed⟩ = ⟨BitVec.ofInt 64 lo, Det.v, 0⟩) ∧
      toInteger d p.1 ⟨.inf neg, flushed⟩ = ⟨BitVec.ofInt 64 (if neg then lo else hi), Det.v, 0⟩ ∧
      toInteger d p.1 ⟨.zero neg, flushed⟩ = ⟨0, if flushed then Det.i else 0, 0⟩ ∧
      (m ≠ 0 → toInteger d p.1 ⟨.fin neg m e, false⟩ =
        if (lo = 0 ∧ q < 0) ∨ n < lo ∨ hi < n then ⟨BitVec.ofInt 64 (if neg then lo else hi), Det.v, 0⟩
        else ⟨BitVec.ofInt 64 n, if (n : Rat) = q then 0 else Det.i, 0⟩)

end
end

