-- ==== Sys2Proof/Laws/Encoding.lean ====
section
/-! SUPPORT. Fields of a halfword that is made of fields, and fields of fields: what decoding and encoding undo. -/
namespace Sys2Proof

/-! ### Parts of a concatenation -/

theorem append_low {n m : Nat} (x : BitVec n) (y : BitVec m) : (x ++ y).extractLsb' 0 m = y := by
  apply BitVec.eq_of_getLsbD_eq
  intro i hi
  rw [BitVec.getLsbD_extractLsb', BitVec.getLsbD_append]
  simp [hi]

theorem append_high {n m : Nat} (x : BitVec n) (y : BitVec m) : (x ++ y).extractLsb' m n = x := by
  apply BitVec.eq_of_getLsbD_eq
  intro i hi
  rw [BitVec.getLsbD_extractLsb', BitVec.getLsbD_append]
  simp [hi]

/-- A field inside the high part of a concatenation. -/
theorem append_extract_high {n m : Nat} (x : BitVec n) (y : BitVec m) {k l : Nat} (hk : m ≤ k) :
    (x ++ y).extractLsb' k l = x.extractLsb' (k - m) l := by
  apply BitVec.eq_of_getLsbD_eq
  intro i hi
  rw [BitVec.getLsbD_extractLsb', BitVec.getLsbD_append, BitVec.getLsbD_extractLsb',
    if_neg (by omega), show k + i - m = k - m + i by omega]

/-- A field inside the low part of a concatenation. -/
theorem append_extract_low {n m : Nat} (x : BitVec n) (y : BitVec m) {k l : Nat} (hk : k + l ≤ m) :
    (x ++ y).extractLsb' k l = y.extractLsb' k l := by
  apply BitVec.eq_of_getLsbD_eq
  intro i hi
  rw [BitVec.getLsbD_extractLsb', BitVec.getLsbD_append, BitVec.getLsbD_extractLsb', if_pos (by omega)]

/-- A value put together again from its high and its low part. -/
theorem parts {k l : Nat} (x : BitVec (l + k)) : x.extractLsb' k l ++ x.extractLsb' 0 k = x := by
  apply BitVec.eq_of_getLsbD_eq
  intro i hi
  rw [BitVec.getLsbD_append, BitVec.getLsbD_extractLsb', BitVec.getLsbD_extractLsb']
  by_cases h : i < k
  · simp [h]
  · rw [if_neg h, show k + (i - k) = i by omega]
    simp; omega

/-- A field of a field. -/
theorem extract_extract {n : Nat} (x : BitVec n) {k l k' l' : Nat} (h : k' + l' ≤ l) :
    (x.extractLsb' k l).extractLsb' k' l' = x.extractLsb' (k + k') l' := by
  apply BitVec.eq_of_getLsbD_eq
  intro i hi
  rw [BitVec.getLsbD_extractLsb', BitVec.getLsbD_extractLsb', BitVec.getLsbD_extractLsb', Nat.add_assoc]
  have : k' + i < l := by omega
  simp [hi, this]

/-! ### Fields of a halfword -/

@[simp] theorem hi5_hw (a : BitVec 5) (b : BitVec 6) (c : BitVec 5) : hi5 (hw a b c) = a := by
  rw [hi5, hw, append_extract_high _ _ (by omega)]
  exact append_high a b

@[simp] theorem mid6_hw (a : BitVec 5) (b : BitVec 6) (c : BitVec 5) : mid6 (hw a b c) = b := by
  rw [mid6, hw, append_extract_high _ _ (by omega)]
  exact append_low a b

@[simp] theorem lo5_hw (a : BitVec 5) (b : BitVec 6) (c : BitVec 5) : lo5 (hw a b c) = c :=
  append_low (a ++ b) c

@[simp] theorem lsb1_hw (a : BitVec 5) (b : BitVec 6) (c : BitVec 5) : lsb1 (hw a b c) = c.extractLsb' 0 1 :=
  append_extract_low (a ++ b) c (by omega)

@[simp] theorem hi15_hwD (d : BitVec 15) (b : BitVec 1) : hi15 (hwD d b) = d := append_high d b

@[simp] theorem lsb1_hwD (d : BitVec 15) (b : BitVec 1) : lsb1 (hwD d b) = b := append_low d b

/-- The field that names a pair names it again. -/
@[simp] theorem evenPair_pairField (p : Pair) : evenPair (pairField p) = some p := by
  unfold evenPair pairField
  rw [append_low, append_high, if_pos rfl]

/-- The halfword of the two bytes of a halfword. -/
@[simp] theorem halfOfBytes_bytes (h : Half) : halfOfBytes (h.extractLsb' 0 8) (h.extractLsb' 8 8) = h :=
  parts (k := 8) (l := 8) h

end Sys2Proof
end

