-- ==== Sys2Proof/Laws/State.lean ====
section
/-! SUPPORT. What each update of a state does to each field: nothing, but for the fields it is about. -/
namespace Sys2Proof.Machine

/-! ### setReg -/

@[simp] theorem State.setReg_pc (s : State) (r : Reg) (v : Word) : (s.setReg r v).pc = s.pc :=
  by unfold State.setReg; split <;> rfl
@[simp] theorem State.setReg_psw (s : State) (r : Reg) (v : Word) : (s.setReg r v).psw = s.psw :=
  by unfold State.setReg; split <;> rfl
@[simp] theorem State.setReg_halted (s : State) (r : Reg) (v : Word) : (s.setReg r v).halted = s.halted :=
  by unfold State.setReg; split <;> rfl
@[simp] theorem State.setReg_main (s : State) (r : Reg) (v : Word) : (s.setReg r v).main = s.main :=
  by unfold State.setReg; split <;> rfl
@[simp] theorem State.setReg_prot (s : State) (r : Reg) (v : Word) : (s.setReg r v).prot = s.prot :=
  by unfold State.setReg; split <;> rfl
@[simp] theorem State.setReg_ppu (s : State) (r : Reg) (v : Word) : (s.setReg r v).ppu = s.ppu :=
  by unfold State.setReg; split <;> rfl
@[simp] theorem State.setReg_tsu (s : State) (r : Reg) (v : Word) : (s.setReg r v).tsu = s.tsu :=
  by unfold State.setReg; split <;> rfl
@[simp] theorem State.setReg_fpu (s : State) (r : Reg) (v : Word) : (s.setReg r v).fpu = s.fpu :=
  by unfold State.setReg; split <;> rfl
@[simp] theorem State.setReg_mem (s : State) (r : Reg) (v : Word) : (s.setReg r v).mem = s.mem :=
  by unfold State.setReg; split <;> rfl
@[simp] theorem State.setReg_inputs (s : State) (r : Reg) (v : Word) : (s.setReg r v).inputs = s.inputs :=
  by unfold State.setReg; split <;> rfl
@[simp] theorem State.setReg_stopAfter (s : State) (r : Reg) (v : Word) : (s.setReg r v).stopAfter = s.stopAfter :=
  by unfold State.setReg; split <;> rfl
@[simp] theorem State.setReg_reports (s : State) (r : Reg) (v : Word) : (s.setReg r v).reports = s.reports :=
  by unfold State.setReg; split <;> rfl
@[simp] theorem State.setReg_free (s : State) (r : Reg) (v : Word) : (s.setReg r v).free = s.free :=
  by unfold State.setReg; split <;> rfl
@[simp] theorem State.setReg_cfg (s : State) (r : Reg) (v : Word) : (s.setReg r v).cfg = s.cfg :=
  by unfold State.setReg; split <;> rfl

/-! ### setPair -/

@[simp] theorem State.setPair_pc (s : State) (p : Pair) (v : DWord) : (s.setPair p v).pc = s.pc :=
  by simp [State.setPair]
@[simp] theorem State.setPair_psw (s : State) (p : Pair) (v : DWord) : (s.setPair p v).psw = s.psw :=
  by simp [State.setPair]
@[simp] theorem State.setPair_halted (s : State) (p : Pair) (v : DWord) : (s.setPair p v).halted = s.halted :=
  by simp [State.setPair]
@[simp] theorem State.setPair_main (s : State) (p : Pair) (v : DWord) : (s.setPair p v).main = s.main :=
  by simp [State.setPair]
@[simp] theorem State.setPair_prot (s : State) (p : Pair) (v : DWord) : (s.setPair p v).prot = s.prot :=
  by simp [State.setPair]
@[simp] theorem State.setPair_ppu (s : State) (p : Pair) (v : DWord) : (s.setPair p v).ppu = s.ppu :=
  by simp [State.setPair]
@[simp] theorem State.setPair_tsu (s : State) (p : Pair) (v : DWord) : (s.setPair p v).tsu = s.tsu :=
  by simp [State.setPair]
@[simp] theorem State.setPair_fpu (s : State) (p : Pair) (v : DWord) : (s.setPair p v).fpu = s.fpu :=
  by simp [State.setPair]
@[simp] theorem State.setPair_mem (s : State) (p : Pair) (v : DWord) : (s.setPair p v).mem = s.mem :=
  by simp [State.setPair]
@[simp] theorem State.setPair_inputs (s : State) (p : Pair) (v : DWord) : (s.setPair p v).inputs = s.inputs :=
  by simp [State.setPair]
@[simp] theorem State.setPair_stopAfter (s : State) (p : Pair) (v : DWord) : (s.setPair p v).stopAfter = s.stopAfter :=
  by simp [State.setPair]
@[simp] theorem State.setPair_reports (s : State) (p : Pair) (v : DWord) : (s.setPair p v).reports = s.reports :=
  by simp [State.setPair]
@[simp] theorem State.setPair_free (s : State) (p : Pair) (v : DWord) : (s.setPair p v).free = s.free :=
  by simp [State.setPair]
@[simp] theorem State.setPair_cfg (s : State) (p : Pair) (v : DWord) : (s.setPair p v).cfg = s.cfg :=
  by simp [State.setPair]

/-! ### setPc -/

@[simp] theorem State.setPc_regs (s : State) (a : Word) : (s.setPc a).regs = s.regs := rfl
@[simp] theorem State.setPc_pc (s : State) (a : Word) : (s.setPc a).pc = pcValue s.cfg a := rfl
@[simp] theorem State.setPc_psw (s : State) (a : Word) : (s.setPc a).psw = s.psw := rfl
@[simp] theorem State.setPc_halted (s : State) (a : Word) : (s.setPc a).halted = s.halted := rfl
@[simp] theorem State.setPc_main (s : State) (a : Word) : (s.setPc a).main = s.main := rfl
@[simp] theorem State.setPc_prot (s : State) (a : Word) : (s.setPc a).prot = s.prot := rfl
@[simp] theorem State.setPc_ppu (s : State) (a : Word) : (s.setPc a).ppu = s.ppu := rfl
@[simp] theorem State.setPc_tsu (s : State) (a : Word) : (s.setPc a).tsu = s.tsu := rfl
@[simp] theorem State.setPc_fpu (s : State) (a : Word) : (s.setPc a).fpu = s.fpu := rfl
@[simp] theorem State.setPc_mem (s : State) (a : Word) : (s.setPc a).mem = s.mem := rfl
@[simp] theorem State.setPc_inputs (s : State) (a : Word) : (s.setPc a).inputs = s.inputs := rfl
@[simp] theorem State.setPc_stopAfter (s : State) (a : Word) : (s.setPc a).stopAfter = s.stopAfter := rfl
@[simp] theorem State.setPc_reports (s : State) (a : Word) : (s.setPc a).reports = s.reports := rfl
@[simp] theorem State.setPc_free (s : State) (a : Word) : (s.setPc a).free = s.free := rfl
@[simp] theorem State.setPc_cfg (s : State) (a : Word) : (s.setPc a).cfg = s.cfg := rfl

/-! ### advance -/

@[simp] theorem State.advance_regs (s : State) (n : Nat) : (s.advance n).regs = s.regs := rfl
@[simp] theorem State.advance_pc (s : State) (n : Nat) : (s.advance n).pc = pcValue s.cfg (s.pc + BitVec.ofNat 32 n) :=
  rfl
@[simp] theorem State.advance_psw (s : State) (n : Nat) : (s.advance n).psw = s.psw := rfl
@[simp] theorem State.advance_halted (s : State) (n : Nat) : (s.advance n).halted = s.halted := rfl
@[simp] theorem State.advance_main (s : State) (n : Nat) : (s.advance n).main = s.main := rfl
@[simp] theorem State.advance_prot (s : State) (n : Nat) : (s.advance n).prot = s.prot := rfl
@[simp] theorem State.advance_ppu (s : State) (n : Nat) : (s.advance n).ppu = s.ppu := rfl
@[simp] theorem State.advance_tsu (s : State) (n : Nat) : (s.advance n).tsu = s.tsu := rfl
@[simp] theorem State.advance_fpu (s : State) (n : Nat) : (s.advance n).fpu = s.fpu := rfl
@[simp] theorem State.advance_mem (s : State) (n : Nat) : (s.advance n).mem = s.mem := rfl
@[simp] theorem State.advance_inputs (s : State) (n : Nat) : (s.advance n).inputs = s.inputs := rfl
@[simp] theorem State.advance_stopAfter (s : State) (n : Nat) : (s.advance n).stopAfter = s.stopAfter := rfl
@[simp] theorem State.advance_reports (s : State) (n : Nat) : (s.advance n).reports = s.reports := rfl
@[simp] theorem State.advance_free (s : State) (n : Nat) : (s.advance n).free = s.free := rfl
@[simp] theorem State.advance_cfg (s : State) (n : Nat) : (s.advance n).cfg = s.cfg := rfl

/-! ### bump -/

@[simp] theorem State.bump_regs (s : State) : (s.bump).regs = s.regs := rfl
@[simp] theorem State.bump_pc (s : State) : (s.bump).pc = s.pc := rfl
@[simp] theorem State.bump_psw (s : State) : (s.bump).psw = s.psw := rfl
@[simp] theorem State.bump_halted (s : State) : (s.bump).halted = s.halted := rfl
@[simp] theorem State.bump_main (s : State) : (s.bump).main = s.main := rfl
@[simp] theorem State.bump_prot (s : State) : (s.bump).prot = s.prot := rfl
@[simp] theorem State.bump_ppu (s : State) : (s.bump).ppu = s.ppu := rfl
@[simp] theorem State.bump_tsu (s : State) : (s.bump).tsu = s.tsu := rfl
@[simp] theorem State.bump_fpu (s : State) : (s.bump).fpu = s.fpu := rfl
@[simp] theorem State.bump_mem (s : State) : (s.bump).mem = s.mem := rfl
@[simp] theorem State.bump_inputs (s : State) : (s.bump).inputs = s.inputs := rfl
@[simp] theorem State.bump_stopAfter (s : State) : (s.bump).stopAfter = s.stopAfter := rfl
@[simp] theorem State.bump_reports (s : State) : (s.bump).reports = s.reports := rfl
@[simp] theorem State.bump_free (s : State) : (s.bump).free = s.free + 1 := rfl
@[simp] theorem State.bump_cfg (s : State) : (s.bump).cfg = s.cfg := rfl

/-! ### putFlags -/

@[simp] theorem State.putFlags_regs (s : State) (c o n z : Bool) : (s.putFlags c o n z).regs = s.regs := rfl
@[simp] theorem State.putFlags_pc (s : State) (c o n z : Bool) : (s.putFlags c o n z).pc = s.pc := rfl
@[simp] theorem State.putFlags_psw (s : State) (c o n z : Bool) :
    (s.putFlags c o n z).psw = putBit (putBit (putBit (putBit s.psw 3 c) 2 o) 1 n) 0 z :=
  rfl
@[simp] theorem State.putFlags_halted (s : State) (c o n z : Bool) : (s.putFlags c o n z).halted = s.halted := rfl
@[simp] theorem State.putFlags_main (s : State) (c o n z : Bool) : (s.putFlags c o n z).main = s.main := rfl
@[simp] theorem State.putFlags_prot (s : State) (c o n z : Bool) : (s.putFlags c o n z).prot = s.prot := rfl
@[simp] theorem State.putFlags_ppu (s : State) (c o n z : Bool) : (s.putFlags c o n z).ppu = s.ppu := rfl
@[simp] theorem State.putFlags_tsu (s : State) (c o n z : Bool) : (s.putFlags c o n z).tsu = s.tsu := rfl
@[simp] theorem State.putFlags_fpu (s : State) (c o n z : Bool) : (s.putFlags c o n z).fpu = s.fpu := rfl
@[simp] theorem State.putFlags_mem (s : State) (c o n z : Bool) : (s.putFlags c o n z).mem = s.mem := rfl
@[simp] theorem State.putFlags_inputs (s : State) (c o n z : Bool) : (s.putFlags c o n z).inputs = s.inputs := rfl
@[simp] theorem State.putFlags_stopAfter (s : State) (c o n z : Bool) : (s.putFlags c o n z).stopAfter = s.stopAfter :=
  rfl
@[simp] theorem State.putFlags_reports (s : State) (c o n z : Bool) : (s.putFlags c o n z).reports = s.reports := rfl
@[simp] theorem State.putFlags_free (s : State) (c o n z : Bool) : (s.putFlags c o n z).free = s.free := rfl
@[simp] theorem State.putFlags_cfg (s : State) (c o n z : Bool) : (s.putFlags c o n z).cfg = s.cfg := rfl

/-! ### putOSZ -/

@[simp] theorem State.putOSZ_regs (s : State) (o n z : Bool) : (s.putOSZ o n z).regs = s.regs := rfl
@[simp] theorem State.putOSZ_pc (s : State) (o n z : Bool) : (s.putOSZ o n z).pc = s.pc := rfl
@[simp] theorem State.putOSZ_psw (s : State) (o n z : Bool) :
    (s.putOSZ o n z).psw = putBit (putBit (putBit s.psw 2 o) 1 n) 0 z :=
  rfl
@[simp] theorem State.putOSZ_halted (s : State) (o n z : Bool) : (s.putOSZ o n z).halted = s.halted := rfl
@[simp] theorem State.putOSZ_main (s : State) (o n z : Bool) : (s.putOSZ o n z).main = s.main := rfl
@[simp] theorem State.putOSZ_prot (s : State) (o n z : Bool) : (s.putOSZ o n z).prot = s.prot := rfl
@[simp] theorem State.putOSZ_ppu (s : State) (o n z : Bool) : (s.putOSZ o n z).ppu = s.ppu := rfl
@[simp] theorem State.putOSZ_tsu (s : State) (o n z : Bool) : (s.putOSZ o n z).tsu = s.tsu := rfl
@[simp] theorem State.putOSZ_fpu (s : State) (o n z : Bool) : (s.putOSZ o n z).fpu = s.fpu := rfl
@[simp] theorem State.putOSZ_mem (s : State) (o n z : Bool) : (s.putOSZ o n z).mem = s.mem := rfl
@[simp] theorem State.putOSZ_inputs (s : State) (o n z : Bool) : (s.putOSZ o n z).inputs = s.inputs := rfl
@[simp] theorem State.putOSZ_stopAfter (s : State) (o n z : Bool) : (s.putOSZ o n z).stopAfter = s.stopAfter := rfl
@[simp] theorem State.putOSZ_reports (s : State) (o n z : Bool) : (s.putOSZ o n z).reports = s.reports := rfl
@[simp] theorem State.putOSZ_free (s : State) (o n z : Bool) : (s.putOSZ o n z).free = s.free := rfl
@[simp] theorem State.putOSZ_cfg (s : State) (o n z : Bool) : (s.putOSZ o n z).cfg = s.cfg := rfl

/-! ### putZ -/

@[simp] theorem State.putZ_regs (s : State) (z : Bool) : (s.putZ z).regs = s.regs := rfl
@[simp] theorem State.putZ_pc (s : State) (z : Bool) : (s.putZ z).pc = s.pc := rfl
@[simp] theorem State.putZ_psw (s : State) (z : Bool) : (s.putZ z).psw = putBit s.psw 0 z := rfl
@[simp] theorem State.putZ_halted (s : State) (z : Bool) : (s.putZ z).halted = s.halted := rfl
@[simp] theorem State.putZ_main (s : State) (z : Bool) : (s.putZ z).main = s.main := rfl
@[simp] theorem State.putZ_prot (s : State) (z : Bool) : (s.putZ z).prot = s.prot := rfl
@[simp] theorem State.putZ_ppu (s : State) (z : Bool) : (s.putZ z).ppu = s.ppu := rfl
@[simp] theorem State.putZ_tsu (s : State) (z : Bool) : (s.putZ z).tsu = s.tsu := rfl
@[simp] theorem State.putZ_fpu (s : State) (z : Bool) : (s.putZ z).fpu = s.fpu := rfl
@[simp] theorem State.putZ_mem (s : State) (z : Bool) : (s.putZ z).mem = s.mem := rfl
@[simp] theorem State.putZ_inputs (s : State) (z : Bool) : (s.putZ z).inputs = s.inputs := rfl
@[simp] theorem State.putZ_stopAfter (s : State) (z : Bool) : (s.putZ z).stopAfter = s.stopAfter := rfl
@[simp] theorem State.putZ_reports (s : State) (z : Bool) : (s.putZ z).reports = s.reports := rfl
@[simp] theorem State.putZ_free (s : State) (z : Bool) : (s.putZ z).free = s.free := rfl
@[simp] theorem State.putZ_cfg (s : State) (z : Bool) : (s.putZ z).cfg = s.cfg := rfl

/-! ### putArith -/

@[simp] theorem State.putArith_regs (s : State) (f : Flagged) : (s.putArith f).regs = s.regs := rfl
@[simp] theorem State.putArith_pc (s : State) (f : Flagged) : (s.putArith f).pc = s.pc := rfl
@[simp] theorem State.putArith_halted (s : State) (f : Flagged) : (s.putArith f).halted = s.halted := rfl
@[simp] theorem State.putArith_main (s : State) (f : Flagged) : (s.putArith f).main = s.main := rfl
@[simp] theorem State.putArith_prot (s : State) (f : Flagged) : (s.putArith f).prot = s.prot := rfl
@[simp] theorem State.putArith_ppu (s : State) (f : Flagged) : (s.putArith f).ppu = s.ppu := rfl
@[simp] theorem State.putArith_tsu (s : State) (f : Flagged) : (s.putArith f).tsu = s.tsu := rfl
@[simp] theorem State.putArith_fpu (s : State) (f : Flagged) : (s.putArith f).fpu = s.fpu := rfl
@[simp] theorem State.putArith_mem (s : State) (f : Flagged) : (s.putArith f).mem = s.mem := rfl
@[simp] theorem State.putArith_inputs (s : State) (f : Flagged) : (s.putArith f).inputs = s.inputs := rfl
@[simp] theorem State.putArith_stopAfter (s : State) (f : Flagged) : (s.putArith f).stopAfter = s.stopAfter := rfl
@[simp] theorem State.putArith_reports (s : State) (f : Flagged) : (s.putArith f).reports = s.reports := rfl
@[simp] theorem State.putArith_free (s : State) (f : Flagged) : (s.putArith f).free = s.free := rfl
@[simp] theorem State.putArith_cfg (s : State) (f : Flagged) : (s.putArith f).cfg = s.cfg := rfl

/-! ### putLogic -/

@[simp] theorem State.putLogic_regs (s : State) (v : Word) : (s.putLogic v).regs = s.regs := rfl
@[simp] theorem State.putLogic_pc (s : State) (v : Word) : (s.putLogic v).pc = s.pc := rfl
@[simp] theorem State.putLogic_halted (s : State) (v : Word) : (s.putLogic v).halted = s.halted := rfl
@[simp] theorem State.putLogic_main (s : State) (v : Word) : (s.putLogic v).main = s.main := rfl
@[simp] theorem State.putLogic_prot (s : State) (v : Word) : (s.putLogic v).prot = s.prot := rfl
@[simp] theorem State.putLogic_ppu (s : State) (v : Word) : (s.putLogic v).ppu = s.ppu := rfl
@[simp] theorem State.putLogic_tsu (s : State) (v : Word) : (s.putLogic v).tsu = s.tsu := rfl
@[simp] theorem State.putLogic_fpu (s : State) (v : Word) : (s.putLogic v).fpu = s.fpu := rfl
@[simp] theorem State.putLogic_mem (s : State) (v : Word) : (s.putLogic v).mem = s.mem := rfl
@[simp] theorem State.putLogic_inputs (s : State) (v : Word) : (s.putLogic v).inputs = s.inputs := rfl
@[simp] theorem State.putLogic_stopAfter (s : State) (v : Word) : (s.putLogic v).stopAfter = s.stopAfter := rfl
@[simp] theorem State.putLogic_reports (s : State) (v : Word) : (s.putLogic v).reports = s.reports := rfl
@[simp] theorem State.putLogic_free (s : State) (v : Word) : (s.putLogic v).free = s.free := rfl
@[simp] theorem State.putLogic_cfg (s : State) (v : Word) : (s.putLogic v).cfg = s.cfg := rfl

/-! ### putSat -/

@[simp] theorem State.putSat_regs (s : State) (f : Flagged) : (s.putSat f).regs = s.regs :=
  by unfold State.putSat; dsimp only; split <;> rfl
@[simp] theorem State.putSat_pc (s : State) (f : Flagged) : (s.putSat f).pc = s.pc :=
  by unfold State.putSat; dsimp only; split <;> rfl
@[simp] theorem State.putSat_halted (s : State) (f : Flagged) : (s.putSat f).halted = s.halted :=
  by unfold State.putSat; dsimp only; split <;> rfl
@[simp] theorem State.putSat_main (s : State) (f : Flagged) : (s.putSat f).main = s.main :=
  by unfold State.putSat; dsimp only; split <;> rfl
@[simp] theorem State.putSat_prot (s : State) (f : Flagged) : (s.putSat f).prot = s.prot :=
  by unfold State.putSat; dsimp only; split <;> rfl
@[simp] theorem State.putSat_ppu (s : State) (f : Flagged) : (s.putSat f).ppu = s.ppu :=
  by unfold State.putSat; dsimp only; split <;> rfl
@[simp] theorem State.putSat_tsu (s : State) (f : Flagged) : (s.putSat f).tsu = s.tsu :=
  by unfold State.putSat; dsimp only; split <;> rfl
@[simp] theorem State.putSat_fpu (s : State) (f : Flagged) : (s.putSat f).fpu = s.fpu :=
  by unfold State.putSat; dsimp only; split <;> rfl
@[simp] theorem State.putSat_mem (s : State) (f : Flagged) : (s.putSat f).mem = s.mem :=
  by unfold State.putSat; dsimp only; split <;> rfl
@[simp] theorem State.putSat_inputs (s : State) (f : Flagged) : (s.putSat f).inputs = s.inputs :=
  by unfold State.putSat; dsimp only; split <;> rfl
@[simp] theorem State.putSat_stopAfter (s : State) (f : Flagged) : (s.putSat f).stopAfter = s.stopAfter :=
  by unfold State.putSat; dsimp only; split <;> rfl
@[simp] theorem State.putSat_reports (s : State) (f : Flagged) : (s.putSat f).reports = s.reports :=
  by unfold State.putSat; dsimp only; split <;> rfl
@[simp] theorem State.putSat_free (s : State) (f : Flagged) : (s.putSat f).free = s.free :=
  by unfold State.putSat; dsimp only; split <;> rfl
@[simp] theorem State.putSat_cfg (s : State) (f : Flagged) : (s.putSat f).cfg = s.cfg :=
  by unfold State.putSat; dsimp only; split <;> rfl

/-! ### putPsw -/

@[simp] theorem State.putPsw_regs (s : State) (v : Word) : (s.putPsw v).regs = s.regs := rfl
@[simp] theorem State.putPsw_pc (s : State) (v : Word) : (s.putPsw v).pc = s.pc := rfl
@[simp] theorem State.putPsw_halted (s : State) (v : Word) : (s.putPsw v).halted = s.halted := rfl
@[simp] theorem State.putPsw_main (s : State) (v : Word) : (s.putPsw v).main = s.main := rfl
@[simp] theorem State.putPsw_prot (s : State) (v : Word) : (s.putPsw v).prot = s.prot := rfl
@[simp] theorem State.putPsw_ppu (s : State) (v : Word) : (s.putPsw v).ppu = s.ppu := rfl
@[simp] theorem State.putPsw_fpu (s : State) (v : Word) : (s.putPsw v).fpu = s.fpu := rfl
@[simp] theorem State.putPsw_mem (s : State) (v : Word) : (s.putPsw v).mem = s.mem := rfl
@[simp] theorem State.putPsw_inputs (s : State) (v : Word) : (s.putPsw v).inputs = s.inputs := rfl
@[simp] theorem State.putPsw_stopAfter (s : State) (v : Word) : (s.putPsw v).stopAfter = s.stopAfter := rfl
@[simp] theorem State.putPsw_reports (s : State) (v : Word) : (s.putPsw v).reports = s.reports := rfl
@[simp] theorem State.putPsw_free (s : State) (v : Word) : (s.putPsw v).free = s.free := rfl
@[simp] theorem State.putPsw_cfg (s : State) (v : Word) : (s.putPsw v).cfg = s.cfg := rfl

/-! ### saveContext -/

@[simp] theorem State.saveContext_regs (s : State) (e : Exc) (a : Word) : (s.saveContext e a).regs = s.regs :=
  by unfold State.saveContext; split <;> rfl
@[simp] theorem State.saveContext_pc (s : State) (e : Exc) (a : Word) : (s.saveContext e a).pc = s.pc :=
  by unfold State.saveContext; split <;> rfl
@[simp] theorem State.saveContext_psw (s : State) (e : Exc) (a : Word) : (s.saveContext e a).psw = s.psw :=
  by unfold State.saveContext; split <;> rfl
@[simp] theorem State.saveContext_halted (s : State) (e : Exc) (a : Word) : (s.saveContext e a).halted = s.halted :=
  by unfold State.saveContext; split <;> rfl
@[simp] theorem State.saveContext_prot (s : State) (e : Exc) (a : Word) : (s.saveContext e a).prot = s.prot :=
  by unfold State.saveContext; split <;> rfl
@[simp] theorem State.saveContext_ppu (s : State) (e : Exc) (a : Word) : (s.saveContext e a).ppu = s.ppu :=
  by unfold State.saveContext; split <;> rfl
@[simp] theorem State.saveContext_tsu (s : State) (e : Exc) (a : Word) : (s.saveContext e a).tsu = s.tsu :=
  by unfold State.saveContext; split <;> rfl
@[simp] theorem State.saveContext_fpu (s : State) (e : Exc) (a : Word) : (s.saveContext e a).fpu = s.fpu :=
  by unfold State.saveContext; split <;> rfl
@[simp] theorem State.saveContext_mem (s : State) (e : Exc) (a : Word) : (s.saveContext e a).mem = s.mem :=
  by unfold State.saveContext; split <;> rfl
@[simp] theorem State.saveContext_inputs (s : State) (e : Exc) (a : Word) : (s.saveContext e a).inputs = s.inputs :=
  by unfold State.saveContext; split <;> rfl
@[simp] theorem State.saveContext_stopAfter (s : State) (e : Exc) (a : Word) :
    (s.saveContext e a).stopAfter = s.stopAfter :=
  by unfold State.saveContext; split <;> rfl
@[simp] theorem State.saveContext_reports (s : State) (e : Exc) (a : Word) : (s.saveContext e a).reports = s.reports :=
  by unfold State.saveContext; split <;> rfl
@[simp] theorem State.saveContext_free (s : State) (e : Exc) (a : Word) : (s.saveContext e a).free = s.free :=
  by unfold State.saveContext; split <;> rfl
@[simp] theorem State.saveContext_cfg (s : State) (e : Exc) (a : Word) : (s.saveContext e a).cfg = s.cfg :=
  by unfold State.saveContext; split <;> rfl

/-! ### tsuEnter -/

@[simp] theorem State.tsuEnter_regs (s : State) (l : Level) : (s.tsuEnter l).regs = s.regs := rfl
@[simp] theorem State.tsuEnter_pc (s : State) (l : Level) : (s.tsuEnter l).pc = s.pc := rfl
@[simp] theorem State.tsuEnter_psw (s : State) (l : Level) : (s.tsuEnter l).psw = s.psw := rfl
@[simp] theorem State.tsuEnter_halted (s : State) (l : Level) : (s.tsuEnter l).halted = s.halted := rfl
@[simp] theorem State.tsuEnter_main (s : State) (l : Level) : (s.tsuEnter l).main = s.main := rfl
@[simp] theorem State.tsuEnter_prot (s : State) (l : Level) : (s.tsuEnter l).prot = s.prot := rfl
@[simp] theorem State.tsuEnter_ppu (s : State) (l : Level) : (s.tsuEnter l).ppu = s.ppu := rfl
@[simp] theorem State.tsuEnter_fpu (s : State) (l : Level) : (s.tsuEnter l).fpu = s.fpu := rfl
@[simp] theorem State.tsuEnter_mem (s : State) (l : Level) : (s.tsuEnter l).mem = s.mem := rfl
@[simp] theorem State.tsuEnter_inputs (s : State) (l : Level) : (s.tsuEnter l).inputs = s.inputs := rfl
@[simp] theorem State.tsuEnter_stopAfter (s : State) (l : Level) : (s.tsuEnter l).stopAfter = s.stopAfter := rfl
@[simp] theorem State.tsuEnter_reports (s : State) (l : Level) : (s.tsuEnter l).reports = s.reports := rfl
@[simp] theorem State.tsuEnter_free (s : State) (l : Level) : (s.tsuEnter l).free = s.free := rfl
@[simp] theorem State.tsuEnter_cfg (s : State) (l : Level) : (s.tsuEnter l).cfg = s.cfg := rfl

/-! ### tsuLeave -/

@[simp] theorem State.tsuLeave_regs (s : State) (l : Level) : (s.tsuLeave l).regs = s.regs := rfl
@[simp] theorem State.tsuLeave_pc (s : State) (l : Level) : (s.tsuLeave l).pc = s.pc := rfl
@[simp] theorem State.tsuLeave_psw (s : State) (l : Level) : (s.tsuLeave l).psw = s.psw := rfl
@[simp] theorem State.tsuLeave_halted (s : State) (l : Level) : (s.tsuLeave l).halted = s.halted := rfl
@[simp] theorem State.tsuLeave_main (s : State) (l : Level) : (s.tsuLeave l).main = s.main := rfl
@[simp] theorem State.tsuLeave_prot (s : State) (l : Level) : (s.tsuLeave l).prot = s.prot := rfl
@[simp] theorem State.tsuLeave_ppu (s : State) (l : Level) : (s.tsuLeave l).ppu = s.ppu := rfl
@[simp] theorem State.tsuLeave_fpu (s : State) (l : Level) : (s.tsuLeave l).fpu = s.fpu := rfl
@[simp] theorem State.tsuLeave_mem (s : State) (l : Level) : (s.tsuLeave l).mem = s.mem := rfl
@[simp] theorem State.tsuLeave_inputs (s : State) (l : Level) : (s.tsuLeave l).inputs = s.inputs := rfl
@[simp] theorem State.tsuLeave_stopAfter (s : State) (l : Level) : (s.tsuLeave l).stopAfter = s.stopAfter := rfl
@[simp] theorem State.tsuLeave_reports (s : State) (l : Level) : (s.tsuLeave l).reports = s.reports := rfl
@[simp] theorem State.tsuLeave_free (s : State) (l : Level) : (s.tsuLeave l).free = s.free := rfl
@[simp] theorem State.tsuLeave_cfg (s : State) (l : Level) : (s.tsuLeave l).cfg = s.cfg := rfl

/-! ### enter -/

@[simp] theorem State.enter_regs (s : State) (e : Exc) (a : Word) : (s.enter e a).regs = s.regs := by simp [State.enter]
@[simp] theorem State.enter_pc (s : State) (e : Exc) (a : Word) : (s.enter e a).pc = s.pc := by simp [State.enter]
@[simp] theorem State.enter_halted (s : State) (e : Exc) (a : Word) : (s.enter e a).halted = s.halted :=
  by simp [State.enter]
@[simp] theorem State.enter_main (s : State) (e : Exc) (a : Word) : (s.enter e a).main = (s.saveContext e a).main :=
  by simp [State.enter]
@[simp] theorem State.enter_prot (s : State) (e : Exc) (a : Word) : (s.enter e a).prot = s.prot := by simp [State.enter]
@[simp] theorem State.enter_ppu (s : State) (e : Exc) (a : Word) : (s.enter e a).ppu = s.ppu := by simp [State.enter]
@[simp] theorem State.enter_fpu (s : State) (e : Exc) (a : Word) : (s.enter e a).fpu = s.fpu := by simp [State.enter]
@[simp] theorem State.enter_mem (s : State) (e : Exc) (a : Word) : (s.enter e a).mem = s.mem := by simp [State.enter]
@[simp] theorem State.enter_inputs (s : State) (e : Exc) (a : Word) : (s.enter e a).inputs = s.inputs :=
  by simp [State.enter]
@[simp] theorem State.enter_stopAfter (s : State) (e : Exc) (a : Word) : (s.enter e a).stopAfter = s.stopAfter :=
  by simp [State.enter]
@[simp] theorem State.enter_reports (s : State) (e : Exc) (a : Word) : (s.enter e a).reports = s.reports :=
  by simp [State.enter]
@[simp] theorem State.enter_free (s : State) (e : Exc) (a : Word) : (s.enter e a).free = s.free := by simp [State.enter]
@[simp] theorem State.enter_cfg (s : State) (e : Exc) (a : Word) : (s.enter e a).cfg = s.cfg := by simp [State.enter]

/-! ### takeException -/

@[simp] theorem State.takeException_regs (s : State) (e : Exc) (a : Word) : (s.takeException e a).regs = s.regs :=
  by simp [State.takeException]
@[simp] theorem State.takeException_pc (s : State) (e : Exc) (a : Word) :
    (s.takeException e a).pc = pcValue s.cfg (s.main.ehBase + e.offset) :=
  by simp [State.takeException]
@[simp] theorem State.takeException_psw (s : State) (e : Exc) (a : Word) :
    (s.takeException e a).psw = (s.enter e a).psw :=
  by simp [State.takeException]
@[simp] theorem State.takeException_halted (s : State) (e : Exc) (a : Word) : (s.takeException e a).halted = s.halted :=
  by simp [State.takeException]
@[simp] theorem State.takeException_main (s : State) (e : Exc) (a : Word) :
    (s.takeException e a).main = (s.saveContext e a).main :=
  by simp [State.takeException]
@[simp] theorem State.takeException_prot (s : State) (e : Exc) (a : Word) : (s.takeException e a).prot = s.prot :=
  by simp [State.takeException]
@[simp] theorem State.takeException_ppu (s : State) (e : Exc) (a : Word) : (s.takeException e a).ppu = s.ppu :=
  by simp [State.takeException]
@[simp] theorem State.takeException_tsu (s : State) (e : Exc) (a : Word) :
    (s.takeException e a).tsu = (s.enter e a).tsu :=
  by simp [State.takeException]
@[simp] theorem State.takeException_fpu (s : State) (e : Exc) (a : Word) : (s.takeException e a).fpu = s.fpu :=
  by simp [State.takeException]
@[simp] theorem State.takeException_mem (s : State) (e : Exc) (a : Word) : (s.takeException e a).mem = s.mem :=
  by simp [State.takeException]
@[simp] theorem State.takeException_inputs (s : State) (e : Exc) (a : Word) : (s.takeException e a).inputs = s.inputs :=
  by simp [State.takeException]
@[simp] theorem State.takeException_stopAfter (s : State) (e : Exc) (a : Word) :
    (s.takeException e a).stopAfter = s.stopAfter :=
  by simp [State.takeException]
@[simp] theorem State.takeException_reports (s : State) (e : Exc) (a : Word) :
    (s.takeException e a).reports = s.reports :=
  by simp [State.takeException]
@[simp] theorem State.takeException_free (s : State) (e : Exc) (a : Word) : (s.takeException e a).free = s.free :=
  by simp [State.takeException]
@[simp] theorem State.takeException_cfg (s : State) (e : Exc) (a : Word) : (s.takeException e a).cfg = s.cfg :=
  by simp [State.takeException]

/-! ### returnTo -/

@[simp] theorem State.returnTo_regs (s : State) (a w : Word) : (s.returnTo a w).regs = s.regs := rfl
@[simp] theorem State.returnTo_pc (s : State) (a w : Word) : (s.returnTo a w).pc = pcValue s.cfg a := rfl
@[simp] theorem State.returnTo_psw (s : State) (a w : Word) : (s.returnTo a w).psw = (s.putPsw w).psw := rfl
@[simp] theorem State.returnTo_halted (s : State) (a w : Word) : (s.returnTo a w).halted = s.halted := rfl
@[simp] theorem State.returnTo_main (s : State) (a w : Word) : (s.returnTo a w).main = s.main := rfl
@[simp] theorem State.returnTo_prot (s : State) (a w : Word) : (s.returnTo a w).prot = s.prot := rfl
@[simp] theorem State.returnTo_ppu (s : State) (a w : Word) : (s.returnTo a w).ppu = s.ppu := rfl
@[simp] theorem State.returnTo_tsu (s : State) (a w : Word) : (s.returnTo a w).tsu = (s.putPsw w).tsu := rfl
@[simp] theorem State.returnTo_fpu (s : State) (a w : Word) : (s.returnTo a w).fpu = s.fpu := rfl
@[simp] theorem State.returnTo_mem (s : State) (a w : Word) : (s.returnTo a w).mem = s.mem := rfl
@[simp] theorem State.returnTo_inputs (s : State) (a w : Word) : (s.returnTo a w).inputs = s.inputs := rfl
@[simp] theorem State.returnTo_stopAfter (s : State) (a w : Word) : (s.returnTo a w).stopAfter = s.stopAfter := rfl
@[simp] theorem State.returnTo_reports (s : State) (a w : Word) : (s.returnTo a w).reports = s.reports := rfl
@[simp] theorem State.returnTo_free (s : State) (a w : Word) : (s.returnTo a w).free = s.free := rfl
@[simp] theorem State.returnTo_cfg (s : State) (a w : Word) : (s.returnTo a w).cfg = s.cfg := rfl

/-! ### reportEnd -/

@[simp] theorem State.reportEnd_regs (s : State) : (s.reportEnd).regs = s.regs :=
  by unfold State.reportEnd; split <;> rfl
@[simp] theorem State.reportEnd_pc (s : State) : (s.reportEnd).pc = s.pc := by unfold State.reportEnd; split <;> rfl
@[simp] theorem State.reportEnd_psw (s : State) : (s.reportEnd).psw = s.psw := by unfold State.reportEnd; split <;> rfl
@[simp] theorem State.reportEnd_halted (s : State) : (s.reportEnd).halted = s.halted :=
  by unfold State.reportEnd; split <;> rfl
@[simp] theorem State.reportEnd_main (s : State) : (s.reportEnd).main = s.main :=
  by unfold State.reportEnd; split <;> rfl
@[simp] theorem State.reportEnd_prot (s : State) : (s.reportEnd).prot = s.prot :=
  by unfold State.reportEnd; split <;> rfl
@[simp] theorem State.reportEnd_ppu (s : State) : (s.reportEnd).ppu = s.ppu := by unfold State.reportEnd; split <;> rfl
@[simp] theorem State.reportEnd_tsu (s : State) : (s.reportEnd).tsu = s.tsu := by unfold State.reportEnd; split <;> rfl
@[simp] theorem State.reportEnd_fpu (s : State) : (s.reportEnd).fpu = s.fpu := by unfold State.reportEnd; split <;> rfl
@[simp] theorem State.reportEnd_mem (s : State) : (s.reportEnd).mem = s.mem := by unfold State.reportEnd; split <;> rfl
@[simp] theorem State.reportEnd_inputs (s : State) : (s.reportEnd).inputs = s.inputs :=
  by unfold State.reportEnd; split <;> rfl
@[simp] theorem State.reportEnd_stopAfter (s : State) : (s.reportEnd).stopAfter = s.stopAfter :=
  by unfold State.reportEnd; split <;> rfl
@[simp] theorem State.reportEnd_free (s : State) : (s.reportEnd).free = s.free :=
  by unfold State.reportEnd; split <;> rfl
@[simp] theorem State.reportEnd_cfg (s : State) : (s.reportEnd).cfg = s.cfg := by unfold State.reportEnd; split <;> rfl

/-! ### setMain -/

@[simp] theorem State.setMain_regs (s : State) (m : MainRegs) : (s.setMain m).regs = s.regs := rfl
@[simp] theorem State.setMain_pc (s : State) (m : MainRegs) : (s.setMain m).pc = s.pc := rfl
@[simp] theorem State.setMain_psw (s : State) (m : MainRegs) : (s.setMain m).psw = s.psw := rfl
@[simp] theorem State.setMain_halted (s : State) (m : MainRegs) : (s.setMain m).halted = s.halted := rfl
@[simp] theorem State.setMain_main (s : State) (m : MainRegs) : (s.setMain m).main = m := rfl
@[simp] theorem State.setMain_prot (s : State) (m : MainRegs) : (s.setMain m).prot = s.prot := rfl
@[simp] theorem State.setMain_ppu (s : State) (m : MainRegs) : (s.setMain m).ppu = s.ppu := rfl
@[simp] theorem State.setMain_tsu (s : State) (m : MainRegs) : (s.setMain m).tsu = s.tsu := rfl
@[simp] theorem State.setMain_fpu (s : State) (m : MainRegs) : (s.setMain m).fpu = s.fpu := rfl
@[simp] theorem State.setMain_mem (s : State) (m : MainRegs) : (s.setMain m).mem = s.mem := rfl
@[simp] theorem State.setMain_inputs (s : State) (m : MainRegs) : (s.setMain m).inputs = s.inputs := rfl
@[simp] theorem State.setMain_stopAfter (s : State) (m : MainRegs) : (s.setMain m).stopAfter = s.stopAfter := rfl
@[simp] theorem State.setMain_reports (s : State) (m : MainRegs) : (s.setMain m).reports = s.reports := rfl
@[simp] theorem State.setMain_free (s : State) (m : MainRegs) : (s.setMain m).free = s.free := rfl
@[simp] theorem State.setMain_cfg (s : State) (m : MainRegs) : (s.setMain m).cfg = s.cfg := rfl

/-! ### setProt -/

@[simp] theorem State.setProt_regs (s : State) (p : ProtRegs) : (s.setProt p).regs = s.regs := rfl
@[simp] theorem State.setProt_pc (s : State) (p : ProtRegs) : (s.setProt p).pc = s.pc := rfl
@[simp] theorem State.setProt_psw (s : State) (p : ProtRegs) : (s.setProt p).psw = s.psw := rfl
@[simp] theorem State.setProt_halted (s : State) (p : ProtRegs) : (s.setProt p).halted = s.halted := rfl
@[simp] theorem State.setProt_main (s : State) (p : ProtRegs) : (s.setProt p).main = s.main := rfl
@[simp] theorem State.setProt_prot (s : State) (p : ProtRegs) : (s.setProt p).prot = p := rfl
@[simp] theorem State.setProt_ppu (s : State) (p : ProtRegs) : (s.setProt p).ppu = s.ppu := rfl
@[simp] theorem State.setProt_tsu (s : State) (p : ProtRegs) : (s.setProt p).tsu = s.tsu := rfl
@[simp] theorem State.setProt_fpu (s : State) (p : ProtRegs) : (s.setProt p).fpu = s.fpu := rfl
@[simp] theorem State.setProt_mem (s : State) (p : ProtRegs) : (s.setProt p).mem = s.mem := rfl
@[simp] theorem State.setProt_inputs (s : State) (p : ProtRegs) : (s.setProt p).inputs = s.inputs := rfl
@[simp] theorem State.setProt_stopAfter (s : State) (p : ProtRegs) : (s.setProt p).stopAfter = s.stopAfter := rfl
@[simp] theorem State.setProt_reports (s : State) (p : ProtRegs) : (s.setProt p).reports = s.reports := rfl
@[simp] theorem State.setProt_free (s : State) (p : ProtRegs) : (s.setProt p).free = s.free := rfl
@[simp] theorem State.setProt_cfg (s : State) (p : ProtRegs) : (s.setProt p).cfg = s.cfg := rfl

/-! ### setFpsr -/

@[simp] theorem State.setFpsr_regs (s : State) (v : Word) : (s.setFpsr v).regs = s.regs := rfl
@[simp] theorem State.setFpsr_pc (s : State) (v : Word) : (s.setFpsr v).pc = s.pc := rfl
@[simp] theorem State.setFpsr_psw (s : State) (v : Word) : (s.setFpsr v).psw = s.psw := rfl
@[simp] theorem State.setFpsr_halted (s : State) (v : Word) : (s.setFpsr v).halted = s.halted := rfl
@[simp] theorem State.setFpsr_main (s : State) (v : Word) : (s.setFpsr v).main = s.main := rfl
@[simp] theorem State.setFpsr_prot (s : State) (v : Word) : (s.setFpsr v).prot = s.prot := rfl
@[simp] theorem State.setFpsr_ppu (s : State) (v : Word) : (s.setFpsr v).ppu = s.ppu := rfl
@[simp] theorem State.setFpsr_tsu (s : State) (v : Word) : (s.setFpsr v).tsu = s.tsu := rfl
@[simp] theorem State.setFpsr_mem (s : State) (v : Word) : (s.setFpsr v).mem = s.mem := rfl
@[simp] theorem State.setFpsr_inputs (s : State) (v : Word) : (s.setFpsr v).inputs = s.inputs := rfl
@[simp] theorem State.setFpsr_stopAfter (s : State) (v : Word) : (s.setFpsr v).stopAfter = s.stopAfter := rfl
@[simp] theorem State.setFpsr_reports (s : State) (v : Word) : (s.setFpsr v).reports = s.reports := rfl
@[simp] theorem State.setFpsr_free (s : State) (v : Word) : (s.setFpsr v).free = s.free := rfl
@[simp] theorem State.setFpsr_cfg (s : State) (v : Word) : (s.setFpsr v).cfg = s.cfg := rfl

/-! ### sysViolation -/

@[simp] theorem State.sysViolation_regs (s : State) : (s.sysViolation).regs = s.regs := rfl
@[simp] theorem State.sysViolation_pc (s : State) : (s.sysViolation).pc = s.pc := rfl
@[simp] theorem State.sysViolation_psw (s : State) : (s.sysViolation).psw = s.psw := rfl
@[simp] theorem State.sysViolation_halted (s : State) : (s.sysViolation).halted = s.halted := rfl
@[simp] theorem State.sysViolation_main (s : State) : (s.sysViolation).main = s.main := rfl
@[simp] theorem State.sysViolation_ppu (s : State) : (s.sysViolation).ppu = s.ppu := rfl
@[simp] theorem State.sysViolation_tsu (s : State) : (s.sysViolation).tsu = s.tsu := rfl
@[simp] theorem State.sysViolation_fpu (s : State) : (s.sysViolation).fpu = s.fpu := rfl
@[simp] theorem State.sysViolation_mem (s : State) : (s.sysViolation).mem = s.mem := rfl
@[simp] theorem State.sysViolation_inputs (s : State) : (s.sysViolation).inputs = s.inputs := rfl
@[simp] theorem State.sysViolation_stopAfter (s : State) : (s.sysViolation).stopAfter = s.stopAfter := rfl
@[simp] theorem State.sysViolation_reports (s : State) : (s.sysViolation).reports = s.reports := rfl
@[simp] theorem State.sysViolation_free (s : State) : (s.sysViolation).free = s.free := rfl
@[simp] theorem State.sysViolation_cfg (s : State) : (s.sysViolation).cfg = s.cfg := rfl

/-! ### raiseMdp -/

@[simp] theorem State.raiseMdp_regs (s : State) (a c : Word) : (s.raiseMdp a c).regs = s.regs :=
  by simp [State.raiseMdp]
@[simp] theorem State.raiseMdp_halted (s : State) (a c : Word) : (s.raiseMdp a c).halted = s.halted :=
  by simp [State.raiseMdp]
@[simp] theorem State.raiseMdp_ppu (s : State) (a c : Word) : (s.raiseMdp a c).ppu = s.ppu := by simp [State.raiseMdp]
@[simp] theorem State.raiseMdp_fpu (s : State) (a c : Word) : (s.raiseMdp a c).fpu = s.fpu := by simp [State.raiseMdp]
@[simp] theorem State.raiseMdp_mem (s : State) (a c : Word) : (s.raiseMdp a c).mem = s.mem := by simp [State.raiseMdp]
@[simp] theorem State.raiseMdp_inputs (s : State) (a c : Word) : (s.raiseMdp a c).inputs = s.inputs :=
  by simp [State.raiseMdp]
@[simp] theorem State.raiseMdp_stopAfter (s : State) (a c : Word) : (s.raiseMdp a c).stopAfter = s.stopAfter :=
  by simp [State.raiseMdp]
@[simp] theorem State.raiseMdp_reports (s : State) (a c : Word) : (s.raiseMdp a c).reports = s.reports :=
  by simp [State.raiseMdp]
@[simp] theorem State.raiseMdp_free (s : State) (a c : Word) : (s.raiseMdp a c).free = s.free :=
  by simp [State.raiseMdp]
@[simp] theorem State.raiseMdp_cfg (s : State) (a c : Word) : (s.raiseMdp a c).cfg = s.cfg := by simp [State.raiseMdp]

/-! ### putQuotient -/

@[simp] theorem State.putQuotient_pc (s : State) (a : Reg) (b : Option Reg) (q m : Word) :
    (s.putQuotient a b q m).pc = s.pc :=
  by cases b <;> simp [State.putQuotient]
@[simp] theorem State.putQuotient_psw (s : State) (a : Reg) (b : Option Reg) (q m : Word) :
    (s.putQuotient a b q m).psw = s.psw :=
  by cases b <;> simp [State.putQuotient]
@[simp] theorem State.putQuotient_halted (s : State) (a : Reg) (b : Option Reg) (q m : Word) :
    (s.putQuotient a b q m).halted = s.halted :=
  by cases b <;> simp [State.putQuotient]
@[simp] theorem State.putQuotient_main (s : State) (a : Reg) (b : Option Reg) (q m : Word) :
    (s.putQuotient a b q m).main = s.main :=
  by cases b <;> simp [State.putQuotient]
@[simp] theorem State.putQuotient_prot (s : State) (a : Reg) (b : Option Reg) (q m : Word) :
    (s.putQuotient a b q m).prot = s.prot :=
  by cases b <;> simp [State.putQuotient]
@[simp] theorem State.putQuotient_ppu (s : State) (a : Reg) (b : Option Reg) (q m : Word) :
    (s.putQuotient a b q m).ppu = s.ppu :=
  by cases b <;> simp [State.putQuotient]
@[simp] theorem State.putQuotient_tsu (s : State) (a : Reg) (b : Option Reg) (q m : Word) :
    (s.putQuotient a b q m).tsu = s.tsu :=
  by cases b <;> simp [State.putQuotient]
@[simp] theorem State.putQuotient_fpu (s : State) (a : Reg) (b : Option Reg) (q m : Word) :
    (s.putQuotient a b q m).fpu = s.fpu :=
  by cases b <;> simp [State.putQuotient]
@[simp] theorem State.putQuotient_mem (s : State) (a : Reg) (b : Option Reg) (q m : Word) :
    (s.putQuotient a b q m).mem = s.mem :=
  by cases b <;> simp [State.putQuotient]
@[simp] theorem State.putQuotient_inputs (s : State) (a : Reg) (b : Option Reg) (q m : Word) :
    (s.putQuotient a b q m).inputs = s.inputs :=
  by cases b <;> simp [State.putQuotient]
@[simp] theorem State.putQuotient_stopAfter (s : State) (a : Reg) (b : Option Reg) (q m : Word) :
    (s.putQuotient a b q m).stopAfter = s.stopAfter :=
  by cases b <;> simp [State.putQuotient]
@[simp] theorem State.putQuotient_reports (s : State) (a : Reg) (b : Option Reg) (q m : Word) :
    (s.putQuotient a b q m).reports = s.reports :=
  by cases b <;> simp [State.putQuotient]
@[simp] theorem State.putQuotient_free (s : State) (a : Reg) (b : Option Reg) (q m : Word) :
    (s.putQuotient a b q m).free = s.free :=
  by cases b <;> simp [State.putQuotient]
@[simp] theorem State.putQuotient_cfg (s : State) (a : Reg) (b : Option Reg) (q m : Word) :
    (s.putQuotient a b q m).cfg = s.cfg :=
  by cases b <;> simp [State.putQuotient]

/-! ### dropInput -/

@[simp] theorem State.dropInput_regs (s : State) : (s.dropInput).regs = s.regs := rfl
@[simp] theorem State.dropInput_pc (s : State) : (s.dropInput).pc = s.pc := rfl
@[simp] theorem State.dropInput_psw (s : State) : (s.dropInput).psw = s.psw := rfl
@[simp] theorem State.dropInput_halted (s : State) : (s.dropInput).halted = s.halted := rfl
@[simp] theorem State.dropInput_main (s : State) : (s.dropInput).main = s.main := rfl
@[simp] theorem State.dropInput_prot (s : State) : (s.dropInput).prot = s.prot := rfl
@[simp] theorem State.dropInput_ppu (s : State) : (s.dropInput).ppu = s.ppu := rfl
@[simp] theorem State.dropInput_tsu (s : State) : (s.dropInput).tsu = s.tsu := rfl
@[simp] theorem State.dropInput_fpu (s : State) : (s.dropInput).fpu = s.fpu := rfl
@[simp] theorem State.dropInput_mem (s : State) : (s.dropInput).mem = s.mem := rfl
@[simp] theorem State.dropInput_inputs (s : State) : (s.dropInput).inputs = s.inputs.tail := rfl
@[simp] theorem State.dropInput_stopAfter (s : State) : (s.dropInput).stopAfter = s.input.stopAfter := rfl
@[simp] theorem State.dropInput_reports (s : State) : (s.dropInput).reports = s.reports := rfl
@[simp] theorem State.dropInput_free (s : State) : (s.dropInput).free = s.free := rfl
@[simp] theorem State.dropInput_cfg (s : State) : (s.dropInput).cfg = s.cfg := rfl

/-! ### tick -/

@[simp] theorem State.tick_regs (s : State) (e : Ext) : (s.tick e).regs = s.regs := rfl
@[simp] theorem State.tick_pc (s : State) (e : Ext) : (s.tick e).pc = s.pc := rfl
@[simp] theorem State.tick_psw (s : State) (e : Ext) : (s.tick e).psw = s.psw := rfl
@[simp] theorem State.tick_halted (s : State) (e : Ext) : (s.tick e).halted = s.halted := rfl
@[simp] theorem State.tick_main (s : State) (e : Ext) : (s.tick e).main = s.main := rfl
@[simp] theorem State.tick_prot (s : State) (e : Ext) : (s.tick e).prot = s.prot := rfl
@[simp] theorem State.tick_ppu (s : State) (e : Ext) : (s.tick e).ppu = s.ppu := rfl
@[simp] theorem State.tick_fpu (s : State) (e : Ext) : (s.tick e).fpu = s.fpu := rfl
@[simp] theorem State.tick_mem (s : State) (e : Ext) : (s.tick e).mem = s.mem := rfl
@[simp] theorem State.tick_inputs (s : State) (e : Ext) : (s.tick e).inputs = s.inputs := rfl
@[simp] theorem State.tick_stopAfter (s : State) (e : Ext) : (s.tick e).stopAfter = s.stopAfter := rfl
@[simp] theorem State.tick_reports (s : State) (e : Ext) : (s.tick e).reports = s.reports := rfl
@[simp] theorem State.tick_free (s : State) (e : Ext) : (s.tick e).free = s.free := rfl
@[simp] theorem State.tick_cfg (s : State) (e : Ext) : (s.tick e).cfg = s.cfg := rfl

/-! ### destinations of floating-point results -/

@[simp] theorem toReg_pc (r : Reg) (v : DWord) (s : State) : (toReg r v s).pc = s.pc := by simp [toReg]
@[simp] theorem toReg_psw (r : Reg) (v : DWord) (s : State) : (toReg r v s).psw = s.psw := by simp [toReg]
@[simp] theorem toReg_halted (r : Reg) (v : DWord) (s : State) : (toReg r v s).halted = s.halted := by simp [toReg]
@[simp] theorem toReg_main (r : Reg) (v : DWord) (s : State) : (toReg r v s).main = s.main := by simp [toReg]
@[simp] theorem toReg_prot (r : Reg) (v : DWord) (s : State) : (toReg r v s).prot = s.prot := by simp [toReg]
@[simp] theorem toReg_ppu (r : Reg) (v : DWord) (s : State) : (toReg r v s).ppu = s.ppu := by simp [toReg]
@[simp] theorem toReg_tsu (r : Reg) (v : DWord) (s : State) : (toReg r v s).tsu = s.tsu := by simp [toReg]
@[simp] theorem toReg_fpu (r : Reg) (v : DWord) (s : State) : (toReg r v s).fpu = s.fpu := by simp [toReg]
@[simp] theorem toReg_mem (r : Reg) (v : DWord) (s : State) : (toReg r v s).mem = s.mem := by simp [toReg]
@[simp] theorem toReg_inputs (r : Reg) (v : DWord) (s : State) : (toReg r v s).inputs = s.inputs := by simp [toReg]
@[simp] theorem toReg_stopAfter (r : Reg) (v : DWord) (s : State) : (toReg r v s).stopAfter
    = s.stopAfter := by simp [toReg]
@[simp] theorem toReg_reports (r : Reg) (v : DWord) (s : State) : (toReg r v s).reports = s.reports := by simp [toReg]
@[simp] theorem toReg_free (r : Reg) (v : DWord) (s : State) : (toReg r v s).free = s.free := by simp [toReg]
@[simp] theorem toReg_cfg (r : Reg) (v : DWord) (s : State) : (toReg r v s).cfg = s.cfg := by simp [toReg]
@[simp] theorem toPair_pc (p : Pair) (v : DWord) (s : State) : (toPair p v s).pc = s.pc := by simp [toPair]
@[simp] theorem toPair_psw (p : Pair) (v : DWord) (s : State) : (toPair p v s).psw = s.psw := by simp [toPair]
@[simp] theorem toPair_halted (p : Pair) (v : DWord) (s : State) : (toPair p v s).halted = s.halted := by simp [toPair]
@[simp] theorem toPair_main (p : Pair) (v : DWord) (s : State) : (toPair p v s).main = s.main := by simp [toPair]
@[simp] theorem toPair_prot (p : Pair) (v : DWord) (s : State) : (toPair p v s).prot = s.prot := by simp [toPair]
@[simp] theorem toPair_ppu (p : Pair) (v : DWord) (s : State) : (toPair p v s).ppu = s.ppu := by simp [toPair]
@[simp] theorem toPair_tsu (p : Pair) (v : DWord) (s : State) : (toPair p v s).tsu = s.tsu := by simp [toPair]
@[simp] theorem toPair_fpu (p : Pair) (v : DWord) (s : State) : (toPair p v s).fpu = s.fpu := by simp [toPair]
@[simp] theorem toPair_mem (p : Pair) (v : DWord) (s : State) : (toPair p v s).mem = s.mem := by simp [toPair]
@[simp] theorem toPair_inputs (p : Pair) (v : DWord) (s : State) : (toPair p v s).inputs = s.inputs := by simp [toPair]
@[simp] theorem toPair_stopAfter (p : Pair) (v : DWord) (s : State) : (toPair p v s).stopAfter
    = s.stopAfter := by simp [toPair]
@[simp] theorem toPair_reports (p : Pair) (v : DWord) (s : State) : (toPair p v s).reports
    = s.reports := by simp [toPair]
@[simp] theorem toPair_free (p : Pair) (v : DWord) (s : State) : (toPair p v s).free = s.free := by simp [toPair]
@[simp] theorem toPair_cfg (p : Pair) (v : DWord) (s : State) : (toPair p v s).cfg = s.cfg := by simp [toPair]
@[simp] theorem toCc_regs (n : BitVec 3) (v : DWord) (s : State) : (toCc n v s).regs = s.regs := rfl
@[simp] theorem toCc_pc (n : BitVec 3) (v : DWord) (s : State) : (toCc n v s).pc = s.pc := rfl
@[simp] theorem toCc_psw (n : BitVec 3) (v : DWord) (s : State) : (toCc n v s).psw = s.psw := rfl
@[simp] theorem toCc_halted (n : BitVec 3) (v : DWord) (s : State) : (toCc n v s).halted = s.halted := rfl
@[simp] theorem toCc_main (n : BitVec 3) (v : DWord) (s : State) : (toCc n v s).main = s.main := rfl
@[simp] theorem toCc_prot (n : BitVec 3) (v : DWord) (s : State) : (toCc n v s).prot = s.prot := rfl
@[simp] theorem toCc_ppu (n : BitVec 3) (v : DWord) (s : State) : (toCc n v s).ppu = s.ppu := rfl
@[simp] theorem toCc_tsu (n : BitVec 3) (v : DWord) (s : State) : (toCc n v s).tsu = s.tsu := rfl
@[simp] theorem toCc_mem (n : BitVec 3) (v : DWord) (s : State) : (toCc n v s).mem = s.mem := rfl
@[simp] theorem toCc_inputs (n : BitVec 3) (v : DWord) (s : State) : (toCc n v s).inputs = s.inputs := rfl
@[simp] theorem toCc_stopAfter (n : BitVec 3) (v : DWord) (s : State) : (toCc n v s).stopAfter = s.stopAfter := rfl
@[simp] theorem toCc_reports (n : BitVec 3) (v : DWord) (s : State) : (toCc n v s).reports = s.reports := rfl
@[simp] theorem toCc_free (n : BitVec 3) (v : DWord) (s : State) : (toCc n v s).free = s.free := rfl
@[simp] theorem toCc_cfg (n : BitVec 3) (v : DWord) (s : State) : (toCc n v s).cfg = s.cfg := rfl

end Sys2Proof.Machine
end

