-- ==== Sys2Proof/Laws/Flags.lean ====
section
/-! SUPPORT. Bits of PSW after each flag update. -/
namespace Sys2Proof.Machine

theorem getLsbD_bitAt (n k : Nat) (hk : k < 32) : (bitAt n).getLsbD k = decide (k = n) := by
  simp only [bitAt, BitVec.getLsbD_shiftLeft, BitVec.getLsbD_one]
  grind

/-- A bit of a word after one bit is written. -/
theorem getLsbD_putBit (w : Word) (n : Nat) (b : Bool) (k : Nat) (hk : k < 32) :
    (putBit w n b).getLsbD k = if k = n then b else w.getLsbD k := by
  have := getLsbD_bitAt n k hk
  unfold putBit
  split <;> simp [hk] <;> grind

/-- The same, for a bit as an index. -/
theorem getElem_putBit (w : Word) (n : Nat) (b : Bool) (k : Nat) (hk : k < 32) :
    (putBit w n b)[k] = if k = n then b else w[k] := by
  simpa [BitVec.getLsbD_eq_getElem hk] using getLsbD_putBit w n b k hk

/-- A mask that leaves out the written bit does not see the write. -/
theorem and_putBit (w m : Word) (n : Nat) (b : Bool) (h : m.getLsbD n = false) :
    putBit w n b &&& m = w &&& m := by
  apply BitVec.eq_of_getLsbD_eq
  intro k hk
  simp only [BitVec.getLsbD_and, getLsbD_putBit w n b k hk]
  split
  · subst k; simp [h]
  · rfl

@[simp] theorem State.fZ_putFlags (s : State) (c o n z : Bool) : (s.putFlags c o n z).fZ = z := by
  simp [State.fZ, getElem_putBit]
@[simp] theorem State.fS_putFlags (s : State) (c o n z : Bool) : (s.putFlags c o n z).fS = n := by
  simp [State.fS, getElem_putBit]
@[simp] theorem State.fOV_putFlags (s : State) (c o n z : Bool) : (s.putFlags c o n z).fOV = o := by
  simp [State.fOV, getElem_putBit]
@[simp] theorem State.fCY_putFlags (s : State) (c o n z : Bool) : (s.putFlags c o n z).fCY = c := by
  simp [State.fCY, getElem_putBit]
@[simp] theorem State.fSAT_putFlags (s : State) (c o n z : Bool) : (s.putFlags c o n z).fSAT = s.fSAT := by
  simp [State.fSAT, getElem_putBit]
@[simp] theorem State.fZ_putOSZ (s : State) (o n z : Bool) : (s.putOSZ o n z).fZ = z := by
  simp [State.fZ, getElem_putBit]
@[simp] theorem State.fS_putOSZ (s : State) (o n z : Bool) : (s.putOSZ o n z).fS = n := by
  simp [State.fS, getElem_putBit]
@[simp] theorem State.fOV_putOSZ (s : State) (o n z : Bool) : (s.putOSZ o n z).fOV = o := by
  simp [State.fOV, getElem_putBit]
@[simp] theorem State.fCY_putOSZ (s : State) (o n z : Bool) : (s.putOSZ o n z).fCY = s.fCY := by
  simp [State.fCY, getElem_putBit]
@[simp] theorem State.fSAT_putOSZ (s : State) (o n z : Bool) : (s.putOSZ o n z).fSAT = s.fSAT := by
  simp [State.fSAT, getElem_putBit]
@[simp] theorem State.fZ_putZ (s : State) (z : Bool) : (s.putZ z).fZ = z := by
  simp [State.fZ, getElem_putBit]

/-- The four flags leave every other bit of PSW alone. -/
theorem State.psw_putFlags (s : State) (c o n z : Bool) (m : Word) (h : m &&& 0xF = 0) :
    (s.putFlags c o n z).psw &&& m = s.psw &&& m := by
  have e (k : Nat) (hk : k < 4) : m.getLsbD k = false := by
    have := congrArg (fun x : Word => x.getLsbD k) h
    have hk' : k < 32 := by omega
    interval_cases k <;> simpa using this
  rw [State.putFlags_psw, and_putBit _ _ _ _ (e 0 (by omega)), and_putBit _ _ _ _ (e 1 (by omega)),
    and_putBit _ _ _ _ (e 2 (by omega)), and_putBit _ _ _ _ (e 3 (by omega))]

/-- OV, S and Z leave every other bit of PSW alone. -/
theorem State.psw_putOSZ (s : State) (o n z : Bool) (m : Word) (h : m &&& 7 = 0) :
    (s.putOSZ o n z).psw &&& m = s.psw &&& m := by
  have e (k : Nat) (hk : k < 3) : m.getLsbD k = false := by
    have := congrArg (fun x : Word => x.getLsbD k) h
    have hk' : k < 32 := by omega
    interval_cases k <;> simpa using this
  rw [State.putOSZ_psw, and_putBit _ _ _ _ (e 0 (by omega)), and_putBit _ _ _ _ (e 1 (by omega)),
    and_putBit _ _ _ _ (e 2 (by omega))]

/-- Writing PSW as a whole: reserved bits stay 0, the protection bits obey MPE and AUE. -/
theorem State.putPsw_bit (s : State) (v : Word) (k : Nat) (hk : k < 32) :
    (s.putPsw v).psw.getLsbD k =
      (v.getLsbD k && pswMask.getLsbD k && (s.mpe || !protMask.getLsbD k) && (s.aue || decide (k ≠ 18))) := by
  have := getLsbD_bitAt 18 k hk
  unfold State.putPsw
  dsimp only
  cases s.mpe <;> cases s.aue <;> simp [hk] <;> grind

end Sys2Proof.Machine
end

