-- ==== Sys2Proof/Laws/Memory.lean ====
section
/-! SUPPORT. Memory: what a write makes a read give, and that every operation keeps the canonical form. -/
namespace Sys2Proof.Machine

theorem Memory.read_erase (m : Memory) (a k : Nat) :
    (m.erase a).read k = if k = a then Memory.unlisted else m.read k := by
  induction m with
  | nil => simp [Memory.erase, Memory.read]
  | cons c m ih => grind [Memory.erase, Memory.read]

theorem Memory.read_insert (m : Memory) (a : Nat) (b : Byte) (k : Nat) (hn : ∀ c ∈ m, c.1 ≠ a) :
    (m.insert a b).read k = if k = a then b else m.read k := by
  induction m with
  | nil => grind [Memory.insert, Memory.read]
  | cons c m ih =>
    have := ih fun d hd => hn d (List.mem_cons_of_mem _ hd)
    have := hn c List.mem_cons_self
    grind [Memory.insert, Memory.read]

theorem Memory.not_mem_erase (m : Memory) (a : Nat) : ∀ c ∈ m.erase a, c.1 ≠ a := by
  induction m with
  | nil => simp [Memory.erase]
  | cons c m ih => grind [Memory.erase]

/-- A read after a write: the byte written at its address, what was there elsewhere. -/
theorem Memory.read_write (m : Memory) (a : Nat) (b : Byte) (k : Nat) :
    (m.write a b).read k = if k = a then b else m.read k := by
  unfold Memory.write
  split
  · subst b; exact m.read_erase a k
  · rw [Memory.read_insert _ _ _ _ (m.not_mem_erase a), Memory.read_erase]
    split <;> rfl

theorem Memory.wfFrom_mono {m : Memory} {lo lo' : Nat} (h : m.wfFrom lo) (hl : lo' ≤ lo) : m.wfFrom lo' := by
  cases m with
  | nil => rfl
  | cons c m => simp_all [Memory.wfFrom]; omega

theorem Memory.wfFrom_erase {m : Memory} {lo : Nat} (a : Nat) (h : m.wfFrom lo) : (m.erase a).wfFrom lo := by
  induction m generalizing lo with
  | nil => rfl
  | cons c m ih =>
    simp only [Memory.wfFrom, Bool.and_eq_true] at h
    unfold Memory.erase
    split
    · exact ih (Memory.wfFrom_mono h.2 (by have := h.1.1.1; simp at this; omega))
    · simp [Memory.wfFrom, ih h.2]; simpa using h.1

theorem Memory.wfFrom_insert {m : Memory} {lo a : Nat} {b : Byte} (h : m.wfFrom lo) (hn : ∀ c ∈ m, c.1 ≠ a)
    (hl : lo ≤ a) (ha : a < 2 ^ 32) (hb : b ≠ Memory.unlisted) : (m.insert a b).wfFrom lo := by
  induction m generalizing lo with
  | nil => simp_all [Memory.insert, Memory.wfFrom]
  | cons c m ih =>
    have hc := hn c List.mem_cons_self
    have ht : ∀ d ∈ m, d.1 ≠ a := fun d hd => hn d (List.mem_cons_of_mem _ hd)
    simp only [Memory.wfFrom, Bool.and_eq_true, decide_eq_true_eq] at h
    unfold Memory.insert
    split
    · have := h.1.2
      simp_all [Memory.wfFrom]
    · have := ih h.2 ht (by omega)
      simp [Memory.wfFrom, this]
      simpa using h.1

/-- A write at an address of the 4 GB space keeps the canonical form. -/
theorem Memory.wf_write {m : Memory} {a : Nat} (b : Byte) (h : m.wf) (ha : a < 2 ^ 32) : (m.write a b).wf := by
  unfold Memory.write
  split
  · exact Memory.wfFrom_erase a h
  · exact Memory.wfFrom_insert (Memory.wfFrom_erase a h) (m.not_mem_erase a) (Nat.zero_le _) ha ‹_›

theorem Memory.wf_nil : Memory.wf [] := rfl

end Sys2Proof.Machine
end

