-- ==== Sys2Proof/Laws/Ops.lean ====
section
/-! SUPPORT. One lemma for each shared operation that says once what it can do. -/
namespace Sys2Proof.Machine

/-! ### Registers -/

@[simp] theorem State.reg_zero (s : State) : s.reg 0 = 0 := by simp [State.reg]

/-- A register reads the same in two states with the same registers. -/
theorem State.reg_congr {s t : State} (h : t.regs = s.regs) (r : Reg) : t.reg r = s.reg r := by
  simp [State.reg, h]

/-- Reading a register after one is written (R31). -/
theorem State.reg_setReg (s : State) (r q : Reg) (v : Word) :
    (s.setReg r v).reg q = if q = r ∧ r ≠ 0 then v else s.reg q := by
  unfold State.setReg
  by_cases hr : r = 0
  · simp [hr]
  · rw [if_neg hr]
    by_cases hq : q = r
    · subst q
      rw [if_pos ⟨rfl, hr⟩, State.reg, if_neg hr]
      exact Vector.getElem_set_self _
    · have hn : r.toNat ≠ q.toNat := fun h => hq (BitVec.eq_of_toNat_eq h.symm)
      rw [if_neg (fun h => hq h.1)]
      unfold State.reg
      split
      · rfl
      · exact Vector.getElem_set_ne r.isLt q.isLt hn

@[simp] theorem State.setReg_zero (s : State) (v : Word) : s.setReg 0 v = s := by simp [State.setReg]

@[simp] theorem State.reg_setPc (s : State) (a : Word) (r : Reg) : (s.setPc a).reg r = s.reg r :=
  State.reg_congr (by simp) r
@[simp] theorem State.reg_advance (s : State) (n : Nat) (r : Reg) : (s.advance n).reg r = s.reg r :=
  State.reg_congr (by simp) r
@[simp] theorem State.reg_bump (s : State) (r : Reg) : (s.bump).reg r = s.reg r :=
  State.reg_congr (by simp) r
@[simp] theorem State.reg_putFlags (s : State) (c o n z : Bool) (r : Reg) : (s.putFlags c o n z).reg r = s.reg r :=
  State.reg_congr (by simp) r
@[simp] theorem State.reg_putOSZ (s : State) (o n z : Bool) (r : Reg) : (s.putOSZ o n z).reg r = s.reg r :=
  State.reg_congr (by simp) r
@[simp] theorem State.reg_putZ (s : State) (z : Bool) (r : Reg) : (s.putZ z).reg r = s.reg r :=
  State.reg_congr (by simp) r
@[simp] theorem State.reg_putArith (s : State) (f : Flagged) (r : Reg) : (s.putArith f).reg r = s.reg r :=
  State.reg_congr (by simp) r
@[simp] theorem State.reg_putLogic (s : State) (v : Word) (r : Reg) : (s.putLogic v).reg r = s.reg r :=
  State.reg_congr (by simp) r
@[simp] theorem State.reg_putSat (s : State) (f : Flagged) (r : Reg) : (s.putSat f).reg r = s.reg r :=
  State.reg_congr (by simp) r
@[simp] theorem State.reg_putPsw (s : State) (v : Word) (r : Reg) : (s.putPsw v).reg r = s.reg r :=
  State.reg_congr (by simp) r
@[simp] theorem State.reg_enter (s : State) (e : Exc) (a : Word) (r : Reg) : (s.enter e a).reg r = s.reg r :=
  State.reg_congr (by simp) r
@[simp] theorem State.reg_takeException (s : State) (e : Exc) (a : Word) (r : Reg) : (s.takeException e a).reg r = s.reg r :=
  State.reg_congr (by simp) r
@[simp] theorem State.reg_returnTo (s : State) (a w : Word) (r : Reg) : (s.returnTo a w).reg r = s.reg r :=
  State.reg_congr (by simp) r
@[simp] theorem State.reg_reportEnd (s : State) (r : Reg) : (s.reportEnd).reg r = s.reg r :=
  State.reg_congr (by simp) r
@[simp] theorem State.reg_tsuLeave (s : State) (l : Level) (r : Reg) : (s.tsuLeave l).reg r = s.reg r :=
  State.reg_congr (by simp) r
@[simp] theorem State.reg_tick (s : State) (e : Ext) (r : Reg) : (s.tick e).reg r = s.reg r :=
  State.reg_congr (by simp) r
@[simp] theorem State.reg_dropInput (s : State) (r : Reg) : (s.dropInput).reg r = s.reg r :=
  State.reg_congr (by simp) r

/-! ### Instruction addresses -/

/-- Bit 0 of a program counter is 0 (R33). -/
theorem pcValue_bit0 (cfg : Config) (v : Word) : (pcValue cfg v).getLsbD 0 = false := by
  simp [pcValue]

/-- In a product that is not limited to 512 MB, an even value is kept. -/
theorem pcValue_even (cfg : Config) (v : Word) (h : cfg.pcLimit512 = false) (he : v.getLsbD 0 = false) :
    pcValue cfg v = v := by
  unfold pcValue limitAddr
  rw [h, if_neg Bool.false_ne_true]
  apply BitVec.eq_of_getLsbD_eq
  intro k hk
  rw [BitVec.getLsbD_and]
  rcases k with _ | k
  · rw [he]; rfl
  · rw [BitVec.getLsbD_not, BitVec.getLsbD_one]
    simp [hk]

/-! ### Outcomes of accesses -/

@[simp] theorem Acc.bind_ok {α β : Type} (a : α) (s : State) (f : α → State → Acc β) : (Acc.ok a s).bind f = f a s := rfl
@[simp] theorem Acc.bind_trap {α β : Type} (s : State) (f : α → State → Acc β) : (Acc.trap s).bind f = .trap s := rfl
@[simp] theorem Acc.bind_refused {α β : Type} (r : Refusal) (f : α → State → Acc β) :
    (Acc.refused r).bind f = .refused r := rfl
@[simp] theorem Acc.finish_ok {α : Type} (a : α) (s : State) (f : α → State → State) :
    (Acc.ok a s).finish f = .next (f a s) := rfl
@[simp] theorem Acc.finish_trap {α : Type} (s : State) (f : α → State → State) : (Acc.trap s).finish f = .next s := rfl
@[simp] theorem Acc.finish_refused {α : Type} (r : Refusal) (f : α → State → State) :
    (Acc.refused r).finish f = .refused r := rfl

/-- A sequence that gives a value gave one in each part. -/
theorem Acc.bind_eq_ok {α β : Type} {x : Acc α} {f : α → State → Acc β} {b : β} {t : State} (h : x.bind f = .ok b t) :
    ∃ a s, x = .ok a s ∧ f a s = .ok b t := by
  cases x with
  | ok a s => exact ⟨a, s, rfl, h⟩
  | trap s => cases h
  | refused r => cases h

/-- A sequence that traps does so in its first part or after it. -/
theorem Acc.bind_eq_trap {α β : Type} {x : Acc α} {f : α → State → Acc β} {t : State} (h : x.bind f = .trap t) :
    x = .trap t ∨ ∃ a s, x = .ok a s ∧ f a s = .trap t := by
  cases x with
  | ok a s => exact .inr ⟨a, s, rfl, h⟩
  | trap s => exact .inl (by cases h; rfl)
  | refused r => cases h

/-- An instruction that ends with accesses and answers a next state completed, or trapped in them. -/
theorem Acc.finish_eq_next {α : Type} {x : Acc α} {f : α → State → State} {t : State} (h : x.finish f = .next t) :
    (∃ a s, x = .ok a s ∧ t = f a s) ∨ x = .trap t := by
  cases x with
  | ok a s => exact .inl ⟨a, s, rfl, by cases h; rfl⟩
  | trap s => exact .inr (by cases h; rfl)
  | refused r => cases h

/-! ### Bytes -/

/-- Reading a byte changes at most how many free values are used, and never traps. -/
theorem State.readByte_ok {s t : State} {a : Word} {b : Byte} (h : s.readByte a = .ok b t) :
    ∃ k, t = { s with free := k } := by
  unfold State.readByte at h
  split at h <;> cases h <;> exact ⟨_, rfl⟩

theorem State.readByte_not_trap (s t : State) (a : Word) : s.readByte a ≠ .trap t := by
  unfold State.readByte
  split <;> simp

/-- Writing a byte changes at most memory and the two memory-mapped units, and never traps. -/
theorem State.writeByte_ok {s t : State} {a : Word} {b : Byte} {u : Unit} (h : s.writeByte a b = .ok u t) :
    ∃ m ts p, t = { s with mem := m, tsu := ts, ppu := p } ∧ (s.mem.wf → m.wf) := by
  unfold State.writeByte at h
  split at h <;> cases h
  · exact ⟨_, _, _, rfl, fun hm => Memory.wf_write b hm a.isLt⟩
  all_goals exact ⟨_, _, _, rfl, id⟩

theorem State.writeByte_not_trap (s t : State) (a : Word) (b : Byte) : s.writeByte a b ≠ .trap t := by
  unfold State.writeByte
  split <;> simp

/-- Reading bytes changes at most how many free values are used. -/
theorem State.readBytes_ok {s t : State} {a v : Word} {n : Nat} (h : s.readBytes a n = .ok v t) :
    ∃ k, t = { s with free := k } := by
  induction n generalizing s a v t with
  | zero => cases h; exact ⟨_, rfl⟩
  | succ n ih =>
    obtain ⟨b, s1, h1, h2⟩ := Acc.bind_eq_ok h
    obtain ⟨w, s2, h3, h4⟩ := Acc.bind_eq_ok h2
    obtain ⟨k, rfl⟩ := State.readByte_ok h1
    obtain ⟨k', rfl⟩ := ih h3
    cases h4
    exact ⟨_, rfl⟩

theorem State.readBytes_not_trap (s t : State) (a : Word) (n : Nat) : s.readBytes a n ≠ .trap t := by
  induction n generalizing s a with
  | zero => simp [State.readBytes]
  | succ n ih =>
    intro h
    rcases Acc.bind_eq_trap h with h | ⟨b, s1, -, h⟩
    · exact State.readByte_not_trap _ _ _ h
    · rcases Acc.bind_eq_trap h with h | ⟨w, s2, -, h⟩
      · exact ih _ _ h
      · cases h

/-- Writing bytes changes at most memory and the two memory-mapped units. -/
theorem State.writeBytes_ok {s t : State} {a v : Word} {n : Nat} {u : Unit} (h : s.writeBytes a v n = .ok u t) :
    ∃ m ts p, t = { s with mem := m, tsu := ts, ppu := p } ∧ (s.mem.wf → m.wf) := by
  induction n generalizing s a v t with
  | zero => cases h; exact ⟨_, _, _, rfl, id⟩
  | succ n ih =>
    obtain ⟨b, s1, h1, h2⟩ := Acc.bind_eq_ok h
    obtain ⟨m, ts, p, rfl, hm⟩ := State.writeByte_ok h1
    obtain ⟨m', ts', p', rfl, hm'⟩ := ih h2
    exact ⟨_, _, _, rfl, fun h => hm' (hm h)⟩

theorem State.writeBytes_not_trap (s t : State) (a v : Word) (n : Nat) : s.writeBytes a v n ≠ .trap t := by
  induction n generalizing s a v with
  | zero => simp [State.writeBytes]
  | succ n ih =>
    intro h
    rcases Acc.bind_eq_trap h with h | ⟨b, s1, -, h⟩
    · exact State.writeByte_not_trap _ _ _ _ h
    · exact ih _ _ _ h

/-- Where every byte is memory, reading gives the bytes there and changes nothing. -/
theorem State.readBytes_ram (s : State) (a : Word) (n : Nat)
    (h : ∀ k < n, memKind s.cfg (a + BitVec.ofNat 32 k) = .ram) : s.readBytes a n = .ok (s.bytesAt a n) s := by
  induction n generalizing a with
  | zero => rfl
  | succ n ih =>
    have h0 := h 0 (Nat.zero_lt_succ n)
    rw [show a + BitVec.ofNat 32 0 = a by simp] at h0
    have h1 : ∀ k < n, memKind s.cfg (a + 1 + BitVec.ofNat 32 k) = .ram := by
      intro k hk
      have := h (k + 1) (by omega)
      rwa [show a + BitVec.ofNat 32 (k + 1) = a + 1 + BitVec.ofNat 32 k by
        apply BitVec.eq_of_toNat_eq; simp [BitVec.toNat_add]; omega] at this
    simp only [State.readBytes, State.readByte, h0, Acc.bind_ok]
    rw [ih _ h1]
    rfl

/-- The memory after the low `n` bytes of a word are stored at `a`. -/
def Memory.storeWord (m : Memory) (a v : Word) : Nat → Memory
  | 0 => m
  | n + 1 => Memory.storeWord (m.write a.toNat (v.setWidth 8)) (a + 1) (v >>> 8) n

/-- Where every byte is memory, writing changes memory and nothing else. -/
theorem State.writeBytes_ram (s : State) (a v : Word) (n : Nat)
    (h : ∀ k < n, memKind s.cfg (a + BitVec.ofNat 32 k) = .ram) :
    s.writeBytes a v n = .ok () { s with mem := s.mem.storeWord a v n } := by
  induction n generalizing s a v with
  | zero => rfl
  | succ n ih =>
    have h0 := h 0 (Nat.zero_lt_succ n)
    rw [show a + BitVec.ofNat 32 0 = a by simp] at h0
    have h1 : ∀ k < n, memKind s.cfg (a + 1 + BitVec.ofNat 32 k) = .ram := by
      intro k hk
      have := h (k + 1) (by omega)
      rwa [show a + BitVec.ofNat 32 (k + 1) = a + 1 + BitVec.ofNat 32 k by
        apply BitVec.eq_of_toNat_eq; simp [BitVec.toNat_add]; omega] at this
    simp only [State.writeBytes, State.writeByte, h0, Acc.bind_ok]
    exact (ih { s with mem := s.mem.write a.toNat (v.setWidth 8) } _ _ h1).trans rfl

/-- Bytes outside the `n` stored from `a` on read as before. -/
theorem Memory.read_storeWord_of_ne (m : Memory) (a v : Word) (n : Nat) (b : Word)
    (h : ∀ k < n, b ≠ a + BitVec.ofNat 32 k) : (m.storeWord a v n).read b.toNat = m.read b.toNat := by
  induction n generalizing m a v with
  | zero => rfl
  | succ n ih =>
    have h0 := h 0 (Nat.zero_lt_succ n)
    rw [show a + BitVec.ofNat 32 0 = a by simp] at h0
    have h1 : ∀ k < n, b ≠ a + 1 + BitVec.ofNat 32 k := by
      intro k hk
      have := h (k + 1) (by omega)
      rwa [show a + BitVec.ofNat 32 (k + 1) = a + 1 + BitVec.ofNat 32 k by
        apply BitVec.eq_of_toNat_eq; simp [BitVec.toNat_add]; omega] at this
    rw [Memory.storeWord, ih _ _ _ h1, Memory.read_write]
    have : b.toNat ≠ a.toNat := fun h => h0 (BitVec.eq_of_toNat_eq h)
    simp [this]

/-- Byte `j` of those stored reads as byte `j` of the word. -/
theorem Memory.read_storeWord (m : Memory) (a v : Word) (n j : Nat) (hj : j < n) (hn : n ≤ 4) :
    (m.storeWord a v n).read (a + BitVec.ofNat 32 j).toNat = (v >>> (8 * j)).setWidth 8 := by
  induction n generalizing m a v j with
  | zero => omega
  | succ n ih =>
    cases j with
    | zero =>
      rw [Memory.storeWord]
      have : ∀ k < n, a ≠ a + 1#32 + BitVec.ofNat 32 k := by
        intro k hk h
        have := congrArg BitVec.toNat h
        simp [BitVec.toNat_add] at this
        omega
      rw [BitVec.ofNat_eq_ofNat, BitVec.add_zero, Memory.read_storeWord_of_ne _ _ _ _ _ this, Memory.read_write]
      simp
    | succ j =>
      rw [Memory.storeWord, show a + BitVec.ofNat 32 (j + 1) = a + 1 + BitVec.ofNat 32 j by
        apply BitVec.eq_of_toNat_eq; simp [BitVec.toNat_add]; omega, ih _ _ _ _ (by omega) (by omega)]
      rw [← BitVec.shiftRight_add]
      congr 2
      omega

/-! ### Accesses -/

/-- Judging an access changes at most the peripheral protection unit, and nothing when the access goes ahead. -/
theorem State.judge_state (s : State) (a : Word) (n : Nat) (w : Bool) :
    (∃ p, (s.judge a n w).2 = { s with ppu := p }) ∧ ((s.judge a n w).1 = true → (s.judge a n w).2 = s) := by
  unfold State.judge
  split
  · exact ⟨⟨_, rfl⟩, by simp⟩
  · split
    · exact ⟨⟨_, rfl⟩, fun _ => rfl⟩
    · dsimp only
      split
      · exact ⟨⟨_, rfl⟩, by simp⟩
      · exact ⟨⟨_, rfl⟩, fun _ => rfl⟩

theorem State.performRead_ok {s t : State} {a : Word} {n : Nat} {v : Word × Bool}
    (h : s.performRead a n = .ok v t) : ∃ p k, t = { s with ppu := p, free := k } := by
  unfold State.performRead at h
  obtain ⟨⟨p, hp⟩, -⟩ := s.judge_state a n false
  rcases hj : s.judge a n false with ⟨g, s1⟩
  rw [hj] at h hp
  subst hp
  cases g with
  | true =>
    obtain ⟨w, s2, h1, h2⟩ := Acc.bind_eq_ok h
    obtain ⟨k, rfl⟩ := State.readBytes_ok h1
    cases h2
    exact ⟨_, _, rfl⟩
  | false => cases h; exact ⟨_, _, rfl⟩

theorem State.performRead_not_trap (s t : State) (a : Word) (n : Nat) : s.performRead a n ≠ .trap t := by
  unfold State.performRead
  rcases s.judge a n false with ⟨g, s1⟩
  cases g with
  | true =>
    intro h
    rcases Acc.bind_eq_trap h with h | ⟨_, _, -, h⟩
    · exact State.readBytes_not_trap _ _ _ _ h
    · cases h
  | false => simp

theorem State.performWrite_ok {s t : State} {a v : Word} {n : Nat} {u : Unit}
    (h : s.performWrite a v n = .ok u t) :
    ∃ m ts p, t = { s with mem := m, tsu := ts, ppu := p } ∧ (s.mem.wf → m.wf) := by
  unfold State.performWrite at h
  obtain ⟨⟨p, hp⟩, -⟩ := s.judge_state a n true
  rcases hj : s.judge a n true with ⟨g, s1⟩
  rw [hj] at h hp
  subst hp
  cases g with
  | true =>
    obtain ⟨m, ts, p, rfl, hm⟩ := State.writeBytes_ok h
    exact ⟨_, _, _, rfl, hm⟩
  | false => cases h; exact ⟨_, _, _, rfl, id⟩

theorem State.performWrite_not_trap (s t : State) (a v : Word) (n : Nat) : s.performWrite a v n ≠ .trap t := by
  unfold State.performWrite
  rcases s.judge a n true with ⟨g, s1⟩
  cases g with
  | true => exact State.writeBytes_not_trap _ _ _ _ _
  | false => simp

/-- A data read that gives a value changes at most the peripheral protection unit and the free values used. -/
theorem State.loadAs_ok {s t : State} {a v : Word} {n : Nat} {sp : Bool} {ext : Word → Word}
    (h : s.loadAs a n sp ext = .ok v t) : ∃ p k, t = { s with ppu := p, free := k } := by
  unfold State.loadAs at h
  split at h
  · obtain ⟨w, s1, h1, h2⟩ := Acc.bind_eq_ok h
    obtain ⟨p, k, rfl⟩ := State.performRead_ok h1
    cases h2
    exact ⟨_, _, rfl⟩
  · cases h

theorem State.load_ok {s t : State} {a v : Word} {n : Nat} {sp : Bool} (h : s.load a n sp = .ok v t) :
    ∃ p k, t = { s with ppu := p, free := k } := State.loadAs_ok h

/-- A data read that traps takes the MDP exception from the state before it. -/
theorem State.loadAs_trap {s t : State} {a : Word} {n : Nat} {sp : Bool} {ext : Word → Word}
    (h : s.loadAs a n sp ext = .trap t) :
    s.permits a n false sp = false ∧ t = s.raiseMdp a (mdpCause a n false false sp) := by
  unfold State.loadAs at h
  split at h
  · rcases Acc.bind_eq_trap h with h | ⟨_, _, -, h⟩
    · exact absurd h (State.performRead_not_trap _ _ _ _)
    · cases h
  · rename_i hp
    refine ⟨by simpa using hp, ?_⟩
    cases h
    rfl

theorem State.load_trap {s t : State} {a : Word} {n : Nat} {sp : Bool} (h : s.load a n sp = .trap t) :
    s.permits a n false sp = false ∧ t = s.raiseMdp a (mdpCause a n false false sp) := State.loadAs_trap h

/-- A data read that is permitted and is judged not to be performed gives a free word, whatever its extension (R893). -/
theorem State.loadAs_blocked {s : State} {a : Word} {n : Nat} {sp : Bool} {ext : Word → Word}
    (hp : s.permits a n false sp = true) (hj : (s.judge a n false).1 = false) :
    s.loadAs a n sp ext = .ok (freeWord (s.judge a n false).2.free) (s.judge a n false).2.bump := by
  unfold State.loadAs State.performRead
  rw [if_pos hp]
  rcases hjj : s.judge a n false with ⟨g, s1⟩
  rw [hjj] at hj
  subst hj
  rfl

/-- A data write that is done changes at most memory and the two memory-mapped units. -/
theorem State.store_ok {s t : State} {a v : Word} {n : Nat} {sp : Bool} {u : Unit} (h : s.store a v n sp = .ok u t) :
    ∃ m ts p, t = { s with mem := m, tsu := ts, ppu := p } ∧ (s.mem.wf → m.wf) := by
  unfold State.store at h
  split at h
  · exact State.performWrite_ok h
  · cases h

/-- A data write that traps takes the MDP exception from the state before it. -/
theorem State.store_trap {s t : State} {a v : Word} {n : Nat} {sp : Bool} (h : s.store a v n sp = .trap t) :
    s.permits a n true sp = false ∧ t = s.raiseMdp a (mdpCause a n true false sp) := by
  unfold State.store at h
  split at h
  · exact absurd h (State.performWrite_not_trap _ _ _ _ _)
  · rename_i hp
    refine ⟨by simpa using hp, ?_⟩
    cases h
    rfl

/-- A read-modify-write that is done changes at most memory, the two memory-mapped units and the free values used. -/
theorem State.modify_ok {s t : State} {a : Word} {v : Word × Bool} {n : Nat} {sp : Bool} {f : Word → Word}
    (h : s.modify a n sp f = .ok v t) :
    ∃ m ts p k, t = { s with mem := m, tsu := ts, ppu := p, free := k } ∧ (s.mem.wf → m.wf) := by
  unfold State.modify at h
  split at h
  · obtain ⟨w, s1, h1, h2⟩ := Acc.bind_eq_ok h
    obtain ⟨p, k, rfl⟩ := State.performRead_ok h1
    split at h2
    · obtain ⟨u, s2, h3, h4⟩ := Acc.bind_eq_ok h2
      obtain ⟨m, ts, p, rfl, hm⟩ := State.performWrite_ok h3
      cases h4
      exact ⟨_, _, _, _, rfl, hm⟩
    · cases h2; exact ⟨_, _, _, _, rfl, id⟩
  · cases h

/-- A read-modify-write that traps takes the MDP exception from the state before it (R878). -/
theorem State.modify_trap {s t : State} {a : Word} {n : Nat} {sp : Bool} {f : Word → Word}
    (h : s.modify a n sp f = .trap t) :
    (s.permits a n false sp && s.permits a n true sp) = false ∧ t = s.raiseMdp a (mdpCause a n false true sp) := by
  unfold State.modify at h
  split at h
  · rcases Acc.bind_eq_trap h with h | ⟨w, s1, -, h⟩
    · exact absurd h (State.performRead_not_trap _ _ _ _)
    · split at h
      · rcases Acc.bind_eq_trap h with h | ⟨_, _, -, h⟩
        · exact absurd h (State.performWrite_not_trap _ _ _ _ _)
        · cases h
      · cases h
  · rename_i hp
    refine ⟨by simpa using hp, ?_⟩
    cases h
    rfl

/-- A data read that reaches memory gives the bytes there, extended, and changes nothing. -/
theorem State.loadAs_reaches {s : State} {a : Word} {n : Nat} {sp : Bool} {ext : Word → Word}
    (h : s.reaches a n false sp) : s.loadAs a n sp ext = .ok (ext (s.bytesAt a n)) s := by
  obtain ⟨hp, hj, hk⟩ := h
  have hs := (s.judge_state a n false).2 hj
  unfold State.loadAs State.performRead
  rw [if_pos hp]
  rcases hjj : s.judge a n false with ⟨g, s1⟩
  rw [hjj] at hj hs
  subst hj hs
  simp [State.readBytes_ram _ _ _ hk]

theorem State.load_reaches {s : State} {a : Word} {n : Nat} {sp : Bool} (h : s.reaches a n false sp) :
    s.load a n sp = .ok (s.bytesAt a n) s := State.loadAs_reaches h

/-- A data write that reaches memory changes memory and nothing else. -/
theorem State.store_reaches {s : State} {a v : Word} {n : Nat} {sp : Bool} (h : s.reaches a n true sp) :
    s.store a v n sp = .ok () { s with mem := s.mem.storeWord a v n } := by
  obtain ⟨hp, hj, hk⟩ := h
  have hs := (s.judge_state a n true).2 hj
  unfold State.store State.performWrite
  rw [if_pos hp]
  rcases hjj : s.judge a n true with ⟨g, s1⟩
  rw [hjj] at hj hs
  subst hj hs
  simp [State.writeBytes_ram _ _ _ _ hk]

/-- A read-modify-write that reaches memory gives the bytes there and changes memory only. -/
theorem State.modify_reaches {s : State} {a : Word} {n : Nat} {sp : Bool} {f : Word → Word}
    (h : s.reaches a n false sp) (hw : s.reaches a n true sp) :
    s.modify a n sp f = .ok (s.bytesAt a n, true) { s with mem := s.mem.storeWord a (f (s.bytesAt a n)) n } := by
  obtain ⟨hp, hj, hk⟩ := h
  obtain ⟨hp', hj', -⟩ := hw
  have hs := (s.judge_state a n false).2 hj
  have hs' := (s.judge_state a n true).2 hj'
  unfold State.modify State.performRead State.performWrite
  rw [hp, hp', Bool.and_true, if_pos rfl]
  rcases hjj : s.judge a n false with ⟨g, s1⟩
  rcases hjj' : s.judge a n true with ⟨g', s1'⟩
  rw [hjj] at hj hs
  rw [hjj'] at hj' hs'
  subst hj hs hj' hs'
  simp [State.readBytes_ram _ _ _ hk, hjj', State.writeBytes_ram _ _ _ _ hk]

/-! ### Counters and placed bytes -/

/-- The counters advance each by what it is given to count. -/
theorem State.tick_counter (s : State) (e : Ext) (k : Fin 6) :
    (s.tick e).tsu.counters.get k = (s.tsu.counters.get k).tick (e.pulses s.cfg k) := by
  simp [State.tick, Vector.get]
  rfl

/-- A counter that does not operate does not advance. -/
theorem Counter.tick_stopped {c : Counter} (n : Nat) (h : c.act = false) : c.tick n = c := by
  simp [Counter.tick, h]

/-- Placing bytes changes memory and nothing else, and keeps its form. -/
theorem State.placeBytes_eq (s : State) (k : Nat) (l : List Byte) :
    ∃ m, s.placeBytes k l = { s with mem := m } ∧ (s.mem.wf → m.wf) := by
  induction l generalizing s k with
  | nil => exact ⟨_, rfl, id⟩
  | cons b l ih =>
    obtain ⟨m, h, hm⟩ := ih { s with mem := s.mem.write (s.fetchAddr k).toNat b } (k + 1)
    exact ⟨m, by rw [State.placeBytes, h], fun h => hm (Memory.wf_write b h (s.fetchAddr k).isLt)⟩

/-! ### Accesses that are not performed -/

/-- A device whose setting forbids an access stops it. -/
theorem State.stopped_of_area {s : State} {a : Word} {n k : Nat} {w sp : Bool} {m : Fin 9}
    (hp : s.permits a n w sp = true) (ha : ppcArea a = some (m, k)) (hf : s.Forbids m k w) : s.Stopped a n w sp :=
  ⟨hp, .inr (by rw [ha]; exact hf)⟩

/-- The violation predicate of the device at a place, from the bits of the four registers (R891, R892). -/
theorem State.violates_iff (s : State) (m : Fin 9) (k : Nat) (w : Bool) :
    (s.ppu.deviceType m k).violates s.fPP w = true ↔ s.Forbids m k w := by
  unfold PpuRegs.deviceType State.Forbids
  cases (s.ppu.pps.get m).getLsbD k <;> cases (s.ppu.ppp.get m).getLsbD k <;> cases s.fPP <;>
    cases (s.ppu.ppv.get m).getLsbD k <;> cases (s.ppu.ppt.get m).getLsbD k <;> cases w <;>
    simp [DeviceType.violates]

/-- The cause that a violating access records in the NT state (R142, R894). -/
theorem State.cause_eq {s : State} {m : Fin 9} {k n : Nat} {w : Bool} (h : s.Forbids m k w) :
    (s.ppu.deviceType m k).causeBits ||| sizeBits n ||| kindBits w ||| 1 = s.violationCause m k n w := by
  unfold State.Forbids at h
  unfold PpuRegs.deviceType State.violationCause sizeBits kindBits
  revert h
  generalize (s.ppu.pps.get m).getLsbD k = b1
  generalize (s.ppu.ppp.get m).getLsbD k = b2
  generalize (s.ppu.ppv.get m).getLsbD k = b3
  generalize (s.ppu.ppt.get m).getLsbD k = b4
  cases b1 <;> cases b2 <;> cases b3 <;> cases b4 <;> simp [DeviceType.causeBits] <;>
    split <;> (try split) <;> cases w <;> simp [bitAt]

/-- An access that is stopped is judged not to go ahead, and the unit records it (R893 to R895). -/
theorem State.judge_of_stopped {s : State} {a : Word} {n : Nat} {w sp : Bool} (h : s.Stopped a n w sp) :
    s.judge a n w = (false, { s with ppu := s.unitAfter a n w }) := by
  obtain ⟨-, h⟩ := h
  unfold State.judge State.unitAfter
  by_cases hi : s.fPP && s.ppu.ppec.getLsbD 0
  · rw [if_pos hi, hi]
  · have hb : (s.fPP && s.ppu.ppec.getLsbD 0) = false := by simpa using hi
    rw [if_neg hi, hb]
    have h : match ppcArea a with | none => False | some (m, k) => s.Forbids m k w := by
      rcases h with ⟨h1, h2⟩ | h
      · simp [h1, h2] at hi
      · exact h
    cases ha : ppcArea a with
    | none => rw [ha] at h; exact h.elim
    | some p =>
      obtain ⟨m, k⟩ := p
      rw [ha] at h
      have hv := (s.violates_iff m k w).2 h
      have hc := State.cause_eq (n := n) h
      simp only [hv, if_true]
      cases hpp : s.fPP
      · have hs : (s.ppu.pps.get m).getLsbD k = true := by
          unfold State.Forbids at h
          simpa [hpp] using h
        have ht : bitAt 15 ||| sizeBits n ||| kindBits w ||| 1 = s.violationCause m k n w := by
          rw [← hc]
          simp [PpuRegs.deviceType, hs, DeviceType.causeBits]
        simp only [PpuRegs.recordT, ht, Bool.false_eq_true, if_false]
        cases s.ppu.vptecr.getLsbD 0 <;> simp
      · simp only [PpuRegs.recordNt, hc, if_true]
        cases s.ppu.vpnecr.getLsbD 0 <;> cases s.ppu.ppm.getLsbD 0 <;> simp

/-- An access that is permitted and not stopped goes ahead. -/
theorem State.judge_of_not_stopped {s : State} {a : Word} {n : Nat} {w sp : Bool} (hp : s.permits a n w sp = true)
    (h : ¬s.Stopped a n w sp) : s.judge a n w = (true, s) := by
  unfold State.Stopped State.Invalidates at h
  unfold State.judge
  by_cases hi : s.fPP && s.ppu.ppec.getLsbD 0
  · exact absurd ⟨hp, .inl (by simpa using hi)⟩ h
  · rw [if_neg hi]
    cases ha : ppcArea a with
    | none => rfl
    | some p =>
      obtain ⟨m, k⟩ := p
      rw [ha] at h
      have : ¬(s.ppu.deviceType m k).violates s.fPP w = true := fun hv =>
        h ⟨hp, .inr ((s.violates_iff m k w).1 hv)⟩
      simp [this]

/-! ### Register lists -/

/-- The registers of a list are r20 to r31. -/
theorem listRegs_ge (list : BitVec 12) : ∀ r ∈ listRegs list, 20 ≤ r.toNat := by
  intro r h
  simp only [listRegs, List.mem_map, List.mem_filter] at h
  obtain ⟨p, ⟨hp, -⟩, rfl⟩ := h
  revert p
  decide

/-- PREPARE's stores change at most memory and the two memory-mapped units. -/
theorem State.pushRegs_ok {s t : State} {a v : Word} {rs : List Reg} (h : s.pushRegs a rs = .ok v t) :
    ∃ m ts p, t = { s with mem := m, tsu := ts, ppu := p } ∧ (s.mem.wf → m.wf) := by
  induction rs generalizing s a with
  | nil => cases h; exact ⟨_, _, _, rfl, id⟩
  | cons r rs ih =>
    obtain ⟨u, s1, h1, h2⟩ := Acc.bind_eq_ok h
    obtain ⟨m, ts, p, rfl, hm⟩ := State.store_ok h1
    obtain ⟨m', ts', p', rfl, hm'⟩ := ih h2
    exact ⟨_, _, _, rfl, fun h => hm' (hm h)⟩

/-- PREPARE traps with the stores before the violating one done (R879). -/
theorem State.pushRegs_trap {s t : State} {a : Word} {rs : List Reg} (h : s.pushRegs a rs = .trap t) :
    ∃ m ts p b c, t = State.raiseMdp { s with mem := m, tsu := ts, ppu := p } b c ∧ (s.mem.wf → m.wf) := by
  induction rs generalizing s a with
  | nil => cases h
  | cons r rs ih =>
    rcases Acc.bind_eq_trap h with h | ⟨u, s1, h1, h2⟩
    · obtain ⟨-, rfl⟩ := State.store_trap h
      exact ⟨_, _, _, _, _, rfl, id⟩
    · obtain ⟨m, ts, p, rfl, hm⟩ := State.store_ok h1
      obtain ⟨m', ts', p', b, c, rfl, hm'⟩ := ih h2
      exact ⟨_, _, _, _, _, rfl, fun h => hm' (hm h)⟩

/-- DISPOSE's loads change at most registers, the peripheral protection unit and the free values used. -/
theorem State.popRegs_ok {s t : State} {a v : Word} {rs : List Reg} (h : s.popRegs a rs = .ok v t) :
    ∃ g p k, t = { s with regs := g, ppu := p, free := k } := by
  induction rs generalizing s a with
  | nil => cases h; exact ⟨_, _, _, rfl⟩
  | cons r rs ih =>
    obtain ⟨u, s1, h1, h2⟩ := Acc.bind_eq_ok h
    obtain ⟨p, k, rfl⟩ := State.load_ok h1
    obtain ⟨g, p', k', rfl⟩ := ih h2
    unfold State.setReg
    split <;> exact ⟨_, _, _, rfl⟩

/-- DISPOSE traps with the loads before the violating one done (R879). -/
theorem State.popRegs_trap {s t : State} {a : Word} {rs : List Reg} (h : s.popRegs a rs = .trap t) :
    ∃ g p k b c, t = State.raiseMdp { s with regs := g, ppu := p, free := k } b c := by
  induction rs generalizing s a with
  | nil => cases h
  | cons r rs ih =>
    rcases Acc.bind_eq_trap h with h | ⟨u, s1, h1, h2⟩
    · obtain ⟨-, rfl⟩ := State.load_trap h
      exact ⟨_, _, _, _, _, rfl⟩
    · obtain ⟨p, k, rfl⟩ := State.load_ok h1
      obtain ⟨g, p', k', b, c, rfl⟩ := ih h2
      unfold State.setReg
      split <;> exact ⟨_, _, _, _, _, rfl⟩

/-! ### Register lists that the environment stops -/

/-- An instruction that the environment does not stop makes all its accesses. -/
@[simp] theorem State.stopPoint_none {s : State} (h : s.stopAfter = none) (count : Nat) : s.stopPoint count = none := by
  simp [State.stopPoint, h]

/-- It is stopped after `k` accesses exactly if the environment says so, it makes any, and it makes no fewer. -/
theorem State.stopPoint_eq_some {s : State} {count k : Nat} :
    s.stopPoint count = some k ↔ s.stopAfter = some k ∧ 0 < count ∧ k ≤ count := by
  simp [State.stopPoint, Option.filter_eq_some_iff]

/-! ### What a product fixes -/

/-- A write to one of the nine registers of a kind leaves the other eight, and every bit that is fixed or not selected. -/
theorem writeSet_get (fixed old : Vector Word 9) (n m : Fin 9) (lane v : Word) :
    (writeSet fixed n lane v old).get m =
      if m = n then mergeBits (old.get n) (lane &&& ~~~fixed.get n &&& if n = 0 then ~~~ppc0Fixed else 0xFFFFFFFF) v
      else old.get m := by
  simp only [writeSet, Vector.get_eq_getElem, Vector.getElem_set]
  by_cases h : m = n
  · subst h; simp
  · have h' : n.val ≠ m.val := fun e => h (Fin.ext e.symm)
    simp [h, h']

/-- A nudged number is the number itself, or a normalized number of the same sign no more than `n` patterns away. -/
theorem Fmt.nudge_cases (f : Fmt) (v : DWord) {shift n : Nat} (h : shift ≤ 2 * n) (hv : v.toNat + n < 2 ^ 64) :
    f.nudge v shift n = v ∨ ((f.unpack (f.nudge v shift n)).isFin = true ∧
      (f.nudge v shift n).toNat ≤ v.toNat + n ∧ v.toNat ≤ (f.nudge v shift n).toNat + n ∧
      (f.nudge v shift n).toNat / 2 ^ (f.frac + f.expBits) = v.toNat / 2 ^ (f.frac + f.expBits)) := by
  simp only [Fmt.nudge]
  split
  · rename_i g
    simp only [Bool.and_eq_true, beq_iff_eq] at g
    refine .inr ⟨g.1, ?_, ?_, g.2.symm⟩ <;>
      rw [BitVec.toNat_ofNat, Nat.mod_eq_of_lt (by omega)] <;> omega
  · exact .inl rfl

/-- An entry that decides an opcode and names an instruction for it names one of the opcode's length (R287). -/
theorem ProductOpcode.size_of_decides {p : ProductOpcode} {w : DWord} {i : Instr} (h : ProductOpcode.decides w p = true)
    (hi : ProductOpcode.instr w p = some i) : i.size = instrLength (opcodeHalf w 0) (opcodeHalf w 1) := by
  simp only [ProductOpcode.decides, hi, Option.all_some, Bool.and_eq_true, beq_iff_eq] at h
  exact h.2

/-- The halfwords that an opcode is made of. -/
theorem opcodeHalf_opcodeOf (h1 h2 h3 h4 : Half) :
    opcodeHalf (opcodeOf h1 h2 h3 h4) 0 = h1 ∧ opcodeHalf (opcodeOf h1 h2 h3 h4) 1 = h2 ∧
      opcodeHalf (opcodeOf h1 h2 h3 h4) 2 = h3 ∧ opcodeHalf (opcodeOf h1 h2 h3 h4) 3 = h4 := by
  unfold opcodeHalf opcodeOf
  refine ⟨?_, ?_, ?_, ?_⟩ <;>
  · apply BitVec.eq_of_getLsbD_eq
    intro i hi
    simp only [BitVec.getLsbD_extractLsb', BitVec.getLsbD_append, hi, decide_true, Bool.true_and]
    (repeat' split) <;> first | omega | (congr 1; omega)

/-- What a reserved opcode can do: raise RIE, run an instruction of the spec that has its length, or be refused because an
entry of the product names none (R297). -/
theorem State.reservedCpu_cases (run : Instr → State → Host.Outcome State Fault Refusal) (s : State) (w : DWord) :
    s.reservedCpu run w = .next s.raiseRie ∨
      (∃ i, i.size = instrLength (opcodeHalf w 0) (opcodeHalf w 1) ∧ s.reservedCpu run w = run i s) ∨
      s.reservedCpu run w = .refused .productInstruction := by
  unfold State.reservedCpu
  split
  · exact .inl rfl
  · rename_i p h
    split
    · rename_i i hi
      exact .inr (.inl ⟨i, ProductOpcode.size_of_decides (List.find?_some h) hi, rfl⟩)
    · exact .inr (.inr rfl)

end Sys2Proof.Machine
end

