-- ==== Sys2Proof/Laws/PerInstr.lean ====
section
/-! SUPPORT. One lemma per instruction for the family `EncodeSize`: an instruction is 2, 4, 6 or 8 bytes long (R270). -/
namespace Sys2Proof.Laws.EncodeSize

/-- The encoding of an instruction is one to four halfwords long. -/
def Statement (i : Instr) : Prop := i.size = 2 ∨ i.size = 4 ∨ i.size = 6 ∨ i.size = 8

theorem nop : Statement (.nop) := .inl rfl
theorem synce : Statement (.synce) := .inl rfl
theorem syncm : Statement (.syncm) := .inl rfl
theorem syncp : Statement (.syncp) := .inl rfl
theorem mov (reg1 : Reg) (reg2 : Reg) : Statement (.mov reg1 reg2) := .inl rfl
theorem not (reg1 : Reg) (reg2 : Reg) : Statement (.not reg1 reg2) := .inl rfl
theorem rie : Statement (.rie) := .inl rfl
theorem switch (reg1 : Reg) : Statement (.switch reg1) := .inl rfl
theorem fetrap (vector4 : BitVec 4) : Statement (.fetrap vector4) := .inl rfl
theorem divhReg (reg1 : Reg) (reg2 : Reg) : Statement (.divhReg reg1 reg2) := .inl rfl
theorem jmp (reg1 : Reg) : Statement (.jmp reg1) := .inl rfl
theorem sldBu (disp : BitVec 4) (reg2 : Reg) : Statement (.sldBu disp reg2) := .inl rfl
theorem sldHu (disp : BitVec 4) (reg2 : Reg) : Statement (.sldHu disp reg2) := .inl rfl
theorem zxb (reg1 : Reg) : Statement (.zxb reg1) := .inl rfl
theorem sxb (reg1 : Reg) : Statement (.sxb reg1) := .inl rfl
theorem zxh (reg1 : Reg) : Statement (.zxh reg1) := .inl rfl
theorem sxh (reg1 : Reg) : Statement (.sxh reg1) := .inl rfl
theorem satsubr (reg1 : Reg) (reg2 : Reg) : Statement (.satsubr reg1 reg2) := .inl rfl
theorem satsub (reg1 : Reg) (reg2 : Reg) : Statement (.satsub reg1 reg2) := .inl rfl
theorem satadd (reg1 : Reg) (reg2 : Reg) : Statement (.satadd reg1 reg2) := .inl rfl
theorem mulh (reg1 : Reg) (reg2 : Reg) : Statement (.mulh reg1 reg2) := .inl rfl
theorem or (reg1 : Reg) (reg2 : Reg) : Statement (.or reg1 reg2) := .inl rfl
theorem xor (reg1 : Reg) (reg2 : Reg) : Statement (.xor reg1 reg2) := .inl rfl
theorem and (reg1 : Reg) (reg2 : Reg) : Statement (.and reg1 reg2) := .inl rfl
theorem tst (reg1 : Reg) (reg2 : Reg) : Statement (.tst reg1 reg2) := .inl rfl
theorem subr (reg1 : Reg) (reg2 : Reg) : Statement (.subr reg1 reg2) := .inl rfl
theorem sub (reg1 : Reg) (reg2 : Reg) : Statement (.sub reg1 reg2) := .inl rfl
theorem add (reg1 : Reg) (reg2 : Reg) : Statement (.add reg1 reg2) := .inl rfl
theorem cmp (reg1 : Reg) (reg2 : Reg) : Statement (.cmp reg1 reg2) := .inl rfl
theorem movImm5 (imm5 : BitVec 5) (reg2 : Reg) : Statement (.movImm5 imm5 reg2) := .inl rfl
theorem sataddImm5 (imm5 : BitVec 5) (reg2 : Reg) : Statement (.sataddImm5 imm5 reg2) := .inl rfl
theorem callt (imm6 : BitVec 6) : Statement (.callt imm6) := .inl rfl
theorem addImm5 (imm5 : BitVec 5) (reg2 : Reg) : Statement (.addImm5 imm5 reg2) := .inl rfl
theorem cmpImm5 (imm5 : BitVec 5) (reg2 : Reg) : Statement (.cmpImm5 imm5 reg2) := .inl rfl
theorem shrImm5 (imm5 : BitVec 5) (reg2 : Reg) : Statement (.shrImm5 imm5 reg2) := .inl rfl
theorem sarImm5 (imm5 : BitVec 5) (reg2 : Reg) : Statement (.sarImm5 imm5 reg2) := .inl rfl
theorem shlImm5 (imm5 : BitVec 5) (reg2 : Reg) : Statement (.shlImm5 imm5 reg2) := .inl rfl
theorem mulhImm5 (imm5 : BitVec 5) (reg2 : Reg) : Statement (.mulhImm5 imm5 reg2) := .inl rfl
theorem sldB (disp : BitVec 7) (reg2 : Reg) : Statement (.sldB disp reg2) := .inl rfl
theorem sstB (reg2 : Reg) (disp : BitVec 7) : Statement (.sstB reg2 disp) := .inl rfl
theorem sldH (disp : BitVec 7) (reg2 : Reg) : Statement (.sldH disp reg2) := .inl rfl
theorem sstH (reg2 : Reg) (disp : BitVec 7) : Statement (.sstH reg2 disp) := .inl rfl
theorem sldW (disp : BitVec 6) (reg2 : Reg) : Statement (.sldW disp reg2) := .inl rfl
theorem sstW (reg2 : Reg) (disp : BitVec 6) : Statement (.sstW reg2 disp) := .inl rfl
theorem bcond (cond : BitVec 4) (disp : BitVec 8) : Statement (.bcond cond disp) := .inl rfl
theorem jr32 (disp : BitVec 31) : Statement (.jr32 disp) := .inr (.inr (.inl rfl))
theorem jarl32 (disp : BitVec 31) (reg1 : Reg) : Statement (.jarl32 disp reg1) := .inr (.inr (.inl rfl))
theorem addi (imm16 : Half) (reg1 : Reg) (reg2 : Reg) : Statement (.addi imm16 reg1 reg2) := .inr (.inl rfl)
theorem movImm32 (imm32 : Word) (reg1 : Reg) : Statement (.movImm32 imm32 reg1) := .inr (.inr (.inl rfl))
theorem movea (imm16 : Half) (reg1 : Reg) (reg2 : Reg) : Statement (.movea imm16 reg1 reg2) := .inr (.inl rfl)
theorem movhi (imm16 : Half) (reg1 : Reg) (reg2 : Reg) : Statement (.movhi imm16 reg1 reg2) := .inr (.inl rfl)
theorem satsubi (imm16 : Half) (reg1 : Reg) (reg2 : Reg) : Statement (.satsubi imm16 reg1 reg2) := .inr (.inl rfl)
theorem dispose (list : BitVec 12) (imm5 : BitVec 5) : Statement (.dispose list imm5) := .inr (.inl rfl)
theorem disposeJmp (list : BitVec 12) (imm5 : BitVec 5) (reg1 : Reg) : Statement (.disposeJmp list imm5 reg1) := .inr (.inl rfl)
theorem ori (imm16 : Half) (reg1 : Reg) (reg2 : Reg) : Statement (.ori imm16 reg1 reg2) := .inr (.inl rfl)
theorem xori (imm16 : Half) (reg1 : Reg) (reg2 : Reg) : Statement (.xori imm16 reg1 reg2) := .inr (.inl rfl)
theorem andi (imm16 : Half) (reg1 : Reg) (reg2 : Reg) : Statement (.andi imm16 reg1 reg2) := .inr (.inl rfl)
theorem mulhi (imm16 : Half) (reg1 : Reg) (reg2 : Reg) : Statement (.mulhi imm16 reg1 reg2) := .inr (.inl rfl)
theorem jmp32 (disp : BitVec 31) (reg1 : Reg) : Statement (.jmp32 disp reg1) := .inr (.inr (.inl rfl))
theorem ldB (disp : BitVec 16) (reg1 : Reg) (reg2 : Reg) : Statement (.ldB disp reg1 reg2) := .inr (.inl rfl)
theorem ldH (disp : BitVec 15) (reg1 : Reg) (reg2 : Reg) : Statement (.ldH disp reg1 reg2) := .inr (.inl rfl)
theorem ldW (disp : BitVec 15) (reg1 : Reg) (reg2 : Reg) : Statement (.ldW disp reg1 reg2) := .inr (.inl rfl)
theorem stB (reg2 : Reg) (disp : BitVec 16) (reg1 : Reg) : Statement (.stB reg2 disp reg1) := .inr (.inl rfl)
theorem stH (reg2 : Reg) (disp : BitVec 15) (reg1 : Reg) : Statement (.stH reg2 disp reg1) := .inr (.inl rfl)
theorem stW (reg2 : Reg) (disp : BitVec 15) (reg1 : Reg) : Statement (.stW reg2 disp reg1) := .inr (.inl rfl)
theorem prepare (list : BitVec 12) (imm5 : BitVec 5) : Statement (.prepare list imm5) := .inr (.inl rfl)
theorem prepareSp (list : BitVec 12) (imm5 : BitVec 5) : Statement (.prepareSp list imm5) := .inr (.inl rfl)
theorem prepareImm16 (list : BitVec 12) (imm5 : BitVec 5) (imm16 : Half) : Statement (.prepareImm16 list imm5 imm16) := .inr (.inr (.inl rfl))
theorem prepareImm16Shl (list : BitVec 12) (imm5 : BitVec 5) (imm16 : Half) : Statement (.prepareImm16Shl list imm5 imm16) := .inr (.inr (.inl rfl))
theorem prepareImm32 (list : BitVec 12) (imm5 : BitVec 5) (imm32 : Word) : Statement (.prepareImm32 list imm5 imm32) := .inr (.inr (.inr rfl))
theorem jr22 (disp : BitVec 21) : Statement (.jr22 disp) := .inr (.inl rfl)
theorem jarl22 (disp : BitVec 21) (reg2 : Reg) : Statement (.jarl22 disp reg2) := .inr (.inl rfl)
theorem ldBu (disp : BitVec 16) (reg1 : Reg) (reg2 : Reg) : Statement (.ldBu disp reg1 reg2) := .inr (.inl rfl)
theorem ldB23 (disp : BitVec 23) (reg1 : Reg) (reg3 : Reg) : Statement (.ldB23 disp reg1 reg3) := .inr (.inr (.inl rfl))
theorem ldH23 (disp : BitVec 22) (reg1 : Reg) (reg3 : Reg) : Statement (.ldH23 disp reg1 reg3) := .inr (.inr (.inl rfl))
theorem ldW23 (disp : BitVec 22) (reg1 : Reg) (reg3 : Reg) : Statement (.ldW23 disp reg1 reg3) := .inr (.inr (.inl rfl))
theorem stB23 (reg3 : Reg) (disp : BitVec 23) (reg1 : Reg) : Statement (.stB23 reg3 disp reg1) := .inr (.inr (.inl rfl))
theorem stW23 (reg3 : Reg) (disp : BitVec 22) (reg1 : Reg) : Statement (.stW23 reg3 disp reg1) := .inr (.inr (.inl rfl))
theorem ldBu23 (disp : BitVec 23) (reg1 : Reg) (reg3 : Reg) : Statement (.ldBu23 disp reg1 reg3) := .inr (.inr (.inl rfl))
theorem ldHu23 (disp : BitVec 22) (reg1 : Reg) (reg3 : Reg) : Statement (.ldHu23 disp reg1 reg3) := .inr (.inr (.inl rfl))
theorem stH23 (reg3 : Reg) (disp : BitVec 22) (reg1 : Reg) : Statement (.stH23 reg3 disp reg1) := .inr (.inr (.inl rfl))
theorem set1 (bit : BitVec 3) (disp : BitVec 16) (reg1 : Reg) : Statement (.set1 bit disp reg1) := .inr (.inl rfl)
theorem not1 (bit : BitVec 3) (disp : BitVec 16) (reg1 : Reg) : Statement (.not1 bit disp reg1) := .inr (.inl rfl)
theorem clr1 (bit : BitVec 3) (disp : BitVec 16) (reg1 : Reg) : Statement (.clr1 bit disp reg1) := .inr (.inl rfl)
theorem tst1 (bit : BitVec 3) (disp : BitVec 16) (reg1 : Reg) : Statement (.tst1 bit disp reg1) := .inr (.inl rfl)
theorem ldHu (disp : BitVec 15) (reg1 : Reg) (reg2 : Reg) : Statement (.ldHu disp reg1 reg2) := .inr (.inl rfl)
theorem setf (cond : BitVec 4) (reg2 : Reg) : Statement (.setf cond reg2) := .inr (.inl rfl)
theorem rieImm (imm5 : BitVec 5) (imm4 : BitVec 4) : Statement (.rieImm imm5 imm4) := .inr (.inl rfl)
theorem ldsr (reg2 : Reg) (regID : BitVec 5) : Statement (.ldsr reg2 regID) := .inr (.inl rfl)
theorem stsr (regID : BitVec 5) (reg2 : Reg) : Statement (.stsr regID reg2) := .inr (.inl rfl)
theorem shr (reg1 : Reg) (reg2 : Reg) : Statement (.shr reg1 reg2) := .inr (.inl rfl)
theorem shr3 (reg1 : Reg) (reg2 : Reg) (reg3 : Reg) : Statement (.shr3 reg1 reg2 reg3) := .inr (.inl rfl)
theorem sar (reg1 : Reg) (reg2 : Reg) : Statement (.sar reg1 reg2) := .inr (.inl rfl)
theorem sar3 (reg1 : Reg) (reg2 : Reg) (reg3 : Reg) : Statement (.sar3 reg1 reg2 reg3) := .inr (.inl rfl)
theorem shl (reg1 : Reg) (reg2 : Reg) : Statement (.shl reg1 reg2) := .inr (.inl rfl)
theorem shl3 (reg1 : Reg) (reg2 : Reg) (reg3 : Reg) : Statement (.shl3 reg1 reg2 reg3) := .inr (.inl rfl)
theorem set1Reg (reg2 : Reg) (reg1 : Reg) : Statement (.set1Reg reg2 reg1) := .inr (.inl rfl)
theorem not1Reg (reg2 : Reg) (reg1 : Reg) : Statement (.not1Reg reg2 reg1) := .inr (.inl rfl)
theorem clr1Reg (reg2 : Reg) (reg1 : Reg) : Statement (.clr1Reg reg2 reg1) := .inr (.inl rfl)
theorem tst1Reg (reg2 : Reg) (reg1 : Reg) : Statement (.tst1Reg reg2 reg1) := .inr (.inl rfl)
theorem caxi (reg1 : Reg) (reg2 : Reg) (reg3 : Reg) : Statement (.caxi reg1 reg2 reg3) := .inr (.inl rfl)
theorem trap (vector5 : BitVec 5) : Statement (.trap vector5) := .inr (.inl rfl)
theorem halt : Statement (.halt) := .inr (.inl rfl)
theorem reti : Statement (.reti) := .inr (.inl rfl)
theorem ctret : Statement (.ctret) := .inr (.inl rfl)
theorem eiret : Statement (.eiret) := .inr (.inl rfl)
theorem feret : Statement (.feret) := .inr (.inl rfl)
theorem di : Statement (.di) := .inr (.inl rfl)
theorem ei : Statement (.ei) := .inr (.inl rfl)
theorem syscall (vector8 : BitVec 8) : Statement (.syscall vector8) := .inr (.inl rfl)
theorem sasf (cond : BitVec 4) (reg2 : Reg) : Statement (.sasf cond reg2) := .inr (.inl rfl)
theorem mul (reg1 : Reg) (reg2 : Reg) (reg3 : Reg) : Statement (.mul reg1 reg2 reg3) := .inr (.inl rfl)
theorem mulu (reg1 : Reg) (reg2 : Reg) (reg3 : Reg) : Statement (.mulu reg1 reg2 reg3) := .inr (.inl rfl)
theorem mulImm9 (imm9 : BitVec 9) (reg2 : Reg) (reg3 : Reg) : Statement (.mulImm9 imm9 reg2 reg3) := .inr (.inl rfl)
theorem muluImm9 (imm9 : BitVec 9) (reg2 : Reg) (reg3 : Reg) : Statement (.muluImm9 imm9 reg2 reg3) := .inr (.inl rfl)
theorem divh (reg1 : Reg) (reg2 : Reg) (reg3 : Reg) : Statement (.divh reg1 reg2 reg3) := .inr (.inl rfl)
theorem divhu (reg1 : Reg) (reg2 : Reg) (reg3 : Reg) : Statement (.divhu reg1 reg2 reg3) := .inr (.inl rfl)
theorem div (reg1 : Reg) (reg2 : Reg) (reg3 : Reg) : Statement (.div reg1 reg2 reg3) := .inr (.inl rfl)
theorem divu (reg1 : Reg) (reg2 : Reg) (reg3 : Reg) : Statement (.divu reg1 reg2 reg3) := .inr (.inl rfl)
theorem divq (reg1 : Reg) (reg2 : Reg) (reg3 : Reg) : Statement (.divq reg1 reg2 reg3) := .inr (.inl rfl)
theorem divqu (reg1 : Reg) (reg2 : Reg) (reg3 : Reg) : Statement (.divqu reg1 reg2 reg3) := .inr (.inl rfl)
theorem cmovImm5 (cond : BitVec 4) (imm5 : BitVec 5) (reg2 : Reg) (reg3 : Reg) : Statement (.cmovImm5 cond imm5 reg2 reg3) := .inr (.inl rfl)
theorem cmov (cond : BitVec 4) (reg1 : Reg) (reg2 : Reg) (reg3 : Reg) : Statement (.cmov cond reg1 reg2 reg3) := .inr (.inl rfl)
theorem bsw (reg2 : Reg) (reg3 : Reg) : Statement (.bsw reg2 reg3) := .inr (.inl rfl)
theorem bsh (reg2 : Reg) (reg3 : Reg) : Statement (.bsh reg2 reg3) := .inr (.inl rfl)
theorem hsw (reg2 : Reg) (reg3 : Reg) : Statement (.hsw reg2 reg3) := .inr (.inl rfl)
theorem hsh (reg2 : Reg) (reg3 : Reg) : Statement (.hsh reg2 reg3) := .inr (.inl rfl)
theorem sch0r (reg2 : Reg) (reg3 : Reg) : Statement (.sch0r reg2 reg3) := .inr (.inl rfl)
theorem sch1r (reg2 : Reg) (reg3 : Reg) : Statement (.sch1r reg2 reg3) := .inr (.inl rfl)
theorem sch0l (reg2 : Reg) (reg3 : Reg) : Statement (.sch0l reg2 reg3) := .inr (.inl rfl)
theorem sch1l (reg2 : Reg) (reg3 : Reg) : Statement (.sch1l reg2 reg3) := .inr (.inl rfl)
theorem sbf (cond : BitVec 4) (reg1 : Reg) (reg2 : Reg) (reg3 : Reg) : Statement (.sbf cond reg1 reg2 reg3) := .inr (.inl rfl)
theorem satsub3 (reg1 : Reg) (reg2 : Reg) (reg3 : Reg) : Statement (.satsub3 reg1 reg2 reg3) := .inr (.inl rfl)
theorem adf (cond : BitVec 4) (reg1 : Reg) (reg2 : Reg) (reg3 : Reg) : Statement (.adf cond reg1 reg2 reg3) := .inr (.inl rfl)
theorem satadd3 (reg1 : Reg) (reg2 : Reg) (reg3 : Reg) : Statement (.satadd3 reg1 reg2 reg3) := .inr (.inl rfl)
theorem mac (reg1 : Reg) (reg2 : Reg) (reg3 : Pair) (reg4 : Pair) : Statement (.mac reg1 reg2 reg3 reg4) := .inr (.inl rfl)
theorem macu (reg1 : Reg) (reg2 : Reg) (reg3 : Pair) (reg4 : Pair) : Statement (.macu reg1 reg2 reg3 reg4) := .inr (.inl rfl)
theorem absfD (reg2 : Pair) (reg3 : Pair) : Statement (.absfD reg2 reg3) := .inr (.inl rfl)
theorem absfS (reg2 : Reg) (reg3 : Reg) : Statement (.absfS reg2 reg3) := .inr (.inl rfl)
theorem addfD (reg1 : Pair) (reg2 : Pair) (reg3 : Pair) : Statement (.addfD reg1 reg2 reg3) := .inr (.inl rfl)
theorem addfS (reg1 : Reg) (reg2 : Reg) (reg3 : Reg) : Statement (.addfS reg1 reg2 reg3) := .inr (.inl rfl)
theorem ceilfDl (reg2 : Pair) (reg3 : Pair) : Statement (.ceilfDl reg2 reg3) := .inr (.inl rfl)
theorem ceilfDul (reg2 : Pair) (reg3 : Pair) : Statement (.ceilfDul reg2 reg3) := .inr (.inl rfl)
theorem ceilfDuw (reg2 : Pair) (reg3 : Reg) : Statement (.ceilfDuw reg2 reg3) := .inr (.inl rfl)
theorem ceilfDw (reg2 : Pair) (reg3 : Reg) : Statement (.ceilfDw reg2 reg3) := .inr (.inl rfl)
theorem ceilfSl (reg2 : Reg) (reg3 : Pair) : Statement (.ceilfSl reg2 reg3) := .inr (.inl rfl)
theorem ceilfSul (reg2 : Reg) (reg3 : Pair) : Statement (.ceilfSul reg2 reg3) := .inr (.inl rfl)
theorem ceilfSuw (reg2 : Reg) (reg3 : Reg) : Statement (.ceilfSuw reg2 reg3) := .inr (.inl rfl)
theorem ceilfSw (reg2 : Reg) (reg3 : Reg) : Statement (.ceilfSw reg2 reg3) := .inr (.inl rfl)
theorem cmovfD (fcbit : BitVec 3) (reg1 : Pair) (reg2 : Pair) (reg3 : Pair) : Statement (.cmovfD fcbit reg1 reg2 reg3) := .inr (.inl rfl)
theorem cmovfS (fcbit : BitVec 3) (reg1 : Reg) (reg2 : Reg) (reg3 : Reg) : Statement (.cmovfS fcbit reg1 reg2 reg3) := .inr (.inl rfl)
theorem cmpfD (fcond : BitVec 4) (reg2 : Pair) (reg1 : Pair) (fcbit : BitVec 3) : Statement (.cmpfD fcond reg2 reg1 fcbit) := .inr (.inl rfl)
theorem cmpfS (fcond : BitVec 4) (reg2 : Reg) (reg1 : Reg) (fcbit : BitVec 3) : Statement (.cmpfS fcond reg2 reg1 fcbit) := .inr (.inl rfl)
theorem cvtfDl (reg2 : Pair) (reg3 : Pair) : Statement (.cvtfDl reg2 reg3) := .inr (.inl rfl)
theorem cvtfDs (reg2 : Pair) (reg3 : Reg) : Statement (.cvtfDs reg2 reg3) := .inr (.inl rfl)
theorem cvtfDul (reg2 : Pair) (reg3 : Pair) : Statement (.cvtfDul reg2 reg3) := .inr (.inl rfl)
theorem cvtfDuw (reg2 : Pair) (reg3 : Reg) : Statement (.cvtfDuw reg2 reg3) := .inr (.inl rfl)
theorem cvtfDw (reg2 : Pair) (reg3 : Reg) : Statement (.cvtfDw reg2 reg3) := .inr (.inl rfl)
theorem cvtfLd (reg2 : Pair) (reg3 : Pair) : Statement (.cvtfLd reg2 reg3) := .inr (.inl rfl)
theorem cvtfLs (reg2 : Pair) (reg3 : Reg) : Statement (.cvtfLs reg2 reg3) := .inr (.inl rfl)
theorem cvtfSd (reg2 : Reg) (reg3 : Pair) : Statement (.cvtfSd reg2 reg3) := .inr (.inl rfl)
theorem cvtfSl (reg2 : Reg) (reg3 : Pair) : Statement (.cvtfSl reg2 reg3) := .inr (.inl rfl)
theorem cvtfSul (reg2 : Reg) (reg3 : Pair) : Statement (.cvtfSul reg2 reg3) := .inr (.inl rfl)
theorem cvtfSuw (reg2 : Reg) (reg3 : Reg) : Statement (.cvtfSuw reg2 reg3) := .inr (.inl rfl)
theorem cvtfSw (reg2 : Reg) (reg3 : Reg) : Statement (.cvtfSw reg2 reg3) := .inr (.inl rfl)
theorem cvtfUld (reg2 : Pair) (reg3 : Pair) : Statement (.cvtfUld reg2 reg3) := .inr (.inl rfl)
theorem cvtfUls (reg2 : Pair) (reg3 : Reg) : Statement (.cvtfUls reg2 reg3) := .inr (.inl rfl)
theorem cvtfUwd (reg2 : Reg) (reg3 : Pair) : Statement (.cvtfUwd reg2 reg3) := .inr (.inl rfl)
theorem cvtfUws (reg2 : Reg) (reg3 : Reg) : Statement (.cvtfUws reg2 reg3) := .inr (.inl rfl)
theorem cvtfWd (reg2 : Reg) (reg3 : Pair) : Statement (.cvtfWd reg2 reg3) := .inr (.inl rfl)
theorem cvtfWs (reg2 : Reg) (reg3 : Reg) : Statement (.cvtfWs reg2 reg3) := .inr (.inl rfl)
theorem divfD (reg1 : Pair) (reg2 : Pair) (reg3 : Pair) : Statement (.divfD reg1 reg2 reg3) := .inr (.inl rfl)
theorem divfS (reg1 : Reg) (reg2 : Reg) (reg3 : Reg) : Statement (.divfS reg1 reg2 reg3) := .inr (.inl rfl)
theorem floorfDl (reg2 : Pair) (reg3 : Pair) : Statement (.floorfDl reg2 reg3) := .inr (.inl rfl)
theorem floorfDul (reg2 : Pair) (reg3 : Pair) : Statement (.floorfDul reg2 reg3) := .inr (.inl rfl)
theorem floorfDuw (reg2 : Pair) (reg3 : Reg) : Statement (.floorfDuw reg2 reg3) := .inr (.inl rfl)
theorem floorfDw (reg2 : Pair) (reg3 : Reg) : Statement (.floorfDw reg2 reg3) := .inr (.inl rfl)
theorem floorfSl (reg2 : Reg) (reg3 : Pair) : Statement (.floorfSl reg2 reg3) := .inr (.inl rfl)
theorem floorfSul (reg2 : Reg) (reg3 : Pair) : Statement (.floorfSul reg2 reg3) := .inr (.inl rfl)
theorem floorfSuw (reg2 : Reg) (reg3 : Reg) : Statement (.floorfSuw reg2 reg3) := .inr (.inl rfl)
theorem floorfSw (reg2 : Reg) (reg3 : Reg) : Statement (.floorfSw reg2 reg3) := .inr (.inl rfl)
theorem maddfS (reg1 : Reg) (reg2 : Reg) (reg3 : Reg) (reg4 : Reg) : Statement (.maddfS reg1 reg2 reg3 reg4) := .inr (.inl rfl)
theorem maxfD (reg1 : Pair) (reg2 : Pair) (reg3 : Pair) : Statement (.maxfD reg1 reg2 reg3) := .inr (.inl rfl)
theorem maxfS (reg1 : Reg) (reg2 : Reg) (reg3 : Reg) : Statement (.maxfS reg1 reg2 reg3) := .inr (.inl rfl)
theorem minfD (reg1 : Pair) (reg2 : Pair) (reg3 : Pair) : Statement (.minfD reg1 reg2 reg3) := .inr (.inl rfl)
theorem minfS (reg1 : Reg) (reg2 : Reg) (reg3 : Reg) : Statement (.minfS reg1 reg2 reg3) := .inr (.inl rfl)
theorem msubfS (reg1 : Reg) (reg2 : Reg) (reg3 : Reg) (reg4 : Reg) : Statement (.msubfS reg1 reg2 reg3 reg4) := .inr (.inl rfl)
theorem mulfD (reg1 : Pair) (reg2 : Pair) (reg3 : Pair) : Statement (.mulfD reg1 reg2 reg3) := .inr (.inl rfl)
theorem mulfS (reg1 : Reg) (reg2 : Reg) (reg3 : Reg) : Statement (.mulfS reg1 reg2 reg3) := .inr (.inl rfl)
theorem negfD (reg2 : Pair) (reg3 : Pair) : Statement (.negfD reg2 reg3) := .inr (.inl rfl)
theorem negfS (reg2 : Reg) (reg3 : Reg) : Statement (.negfS reg2 reg3) := .inr (.inl rfl)
theorem nmaddfS (reg1 : Reg) (reg2 : Reg) (reg3 : Reg) (reg4 : Reg) : Statement (.nmaddfS reg1 reg2 reg3 reg4) := .inr (.inl rfl)
theorem nmsubfS (reg1 : Reg) (reg2 : Reg) (reg3 : Reg) (reg4 : Reg) : Statement (.nmsubfS reg1 reg2 reg3 reg4) := .inr (.inl rfl)
theorem recipfD (reg2 : Pair) (reg3 : Pair) : Statement (.recipfD reg2 reg3) := .inr (.inl rfl)
theorem recipfS (reg2 : Reg) (reg3 : Reg) : Statement (.recipfS reg2 reg3) := .inr (.inl rfl)
theorem rsqrtfD (reg2 : Pair) (reg3 : Pair) : Statement (.rsqrtfD reg2 reg3) := .inr (.inl rfl)
theorem rsqrtfS (reg2 : Reg) (reg3 : Reg) : Statement (.rsqrtfS reg2 reg3) := .inr (.inl rfl)
theorem sqrtfD (reg2 : Pair) (reg3 : Pair) : Statement (.sqrtfD reg2 reg3) := .inr (.inl rfl)
theorem sqrtfS (reg2 : Reg) (reg3 : Reg) : Statement (.sqrtfS reg2 reg3) := .inr (.inl rfl)
theorem subfD (reg1 : Pair) (reg2 : Pair) (reg3 : Pair) : Statement (.subfD reg1 reg2 reg3) := .inr (.inl rfl)
theorem subfS (reg1 : Reg) (reg2 : Reg) (reg3 : Reg) : Statement (.subfS reg1 reg2 reg3) := .inr (.inl rfl)
theorem trfsr (fcbit : BitVec 3) : Statement (.trfsr fcbit) := .inr (.inl rfl)
theorem trncfDl (reg2 : Pair) (reg3 : Pair) : Statement (.trncfDl reg2 reg3) := .inr (.inl rfl)
theorem trncfDul (reg2 : Pair) (reg3 : Pair) : Statement (.trncfDul reg2 reg3) := .inr (.inl rfl)
theorem trncfDuw (reg2 : Pair) (reg3 : Reg) : Statement (.trncfDuw reg2 reg3) := .inr (.inl rfl)
theorem trncfDw (reg2 : Pair) (reg3 : Reg) : Statement (.trncfDw reg2 reg3) := .inr (.inl rfl)
theorem trncfSl (reg2 : Reg) (reg3 : Pair) : Statement (.trncfSl reg2 reg3) := .inr (.inl rfl)
theorem trncfSul (reg2 : Reg) (reg3 : Pair) : Statement (.trncfSul reg2 reg3) := .inr (.inl rfl)
theorem trncfSuw (reg2 : Reg) (reg3 : Reg) : Statement (.trncfSuw reg2 reg3) := .inr (.inl rfl)
theorem trncfSw (reg2 : Reg) (reg3 : Reg) : Statement (.trncfSw reg2 reg3) := .inr (.inl rfl)

end Sys2Proof.Laws.EncodeSize
end

