-- ==== Sys2Proof/Tests/Slice0.lean ====
section
/-! SUPPORT. Tests: ill-formed instructions are refused, a word of every instruction decodes as the spec's example of it
says (spec/95_test_vectors.md, part B), one step of every instruction gives what that example says, and every
statement's hypotheses are met somewhere. -/
namespace Sys2Proof.Tests
set_option Elab.async false
open Sys2Proof.Machine

/-! ### Helpers -/

/-- The machine after reset at 8000H, with some registers written. -/
def start (l : List (Reg × Word)) : State :=
  l.foldl (fun s p => s.setReg p.1 p.2) { State.reset with pc := 0x8000 }
/-- The state with PSW written as it stands. -/
def setPsw (w : Word) (s : State) : State := { s with psw := w }
/-- The state with some bytes stored. -/
def bytes (a : Word) (l : List Byte) (s : State) : State := 
  { s with mem := l.zipIdx.foldl (fun m p => m.write (a + BitVec.ofNat 32 p.2).toNat p.1) s.mem }
/-- The state with FPSR written as it stands. -/
def setFpsr (w : Word) (s : State) : State := { s with fpu := { s.fpu with fpsr := w } }
/-- The state with the program counter written as it stands. -/
def at_ (a : Word) (s : State) : State := { s with pc := a }
/-- The instruction completes, in a state of which `p` holds. -/
def gives (i : Instr) (s : State) (p : State → Bool) : Bool :=
  match exec i s with
  | .next t => p t
  | _ => false

/-! ### Ill-formed instructions, one for each check -/

theorem test_ill_formed : (([.mov 1 0, .switch 0, .fetrap 0, .divhReg 0 1, .divhReg 1 0, .sldBu 1 0, .sldHu 1 0,
    .satsubr 1 0, .satsub 1 0, .satadd 1 0, .mulh 1 0, .movImm5 1 0, .sataddImm5 1 0, .mulhImm5 1 0,
    .jarl32 1 0, .movea 1 1 0, .movhi 1 1 0, .satsubi 1 1 0, .disposeJmp 1 1 0, .mulhi 1 1 0, .jarl22 1 0,
    .ldBu 1 1 0, .ldHu 1 1 0, .sbf 13 1 2 3, .adf 13 1 2 3, .cmovfD 1 1 1 0, .cmovfS 1 1 1 0] : List Instr).all fun i => !i.wellFormed) = true := by decide

/-! ### Words from the spec -/

/-- A word of the given number of halfwords and the instruction it is. -/
def reads (l : List (Nat × Nat × Instr)) : Bool := l.all fun p => decodeTableWord (16 * p.1) p.2.1 == some p.2.2

theorem test_words_load_and_store_1 : reads [
    (2, 0xFFFC5F0A, .ldB 0xFFFC 10 11),
    (3, 0x02466455078A, .ldB23 0x12345 10 12),
    (2, 0x00035FAA, .ldBu 3 10 11),
    (3, 0xFFFF67F507AA, .ldBu23 0x7FFFFF 10 12),
    (2, 0x01001721, .ldH 0x80 1 2),
    (3, 0x800010070781, .ldH23 0x200000 1 2),
    (2, 0xFFFF37E5, .ldHu 0x7FFF 5 6),
    (3, 0x7FFF37E707A5, .ldHu23 0x1FFFFF 5 6),
    (2, 0x00093F23, .ldW 4 3 7),
    (3, 0x020038090780, .ldW23 0x8000 0 7),
    (1, 0x0B7F, .sldB 0x7F 1),
    (1, 0x106F, .sldBu 15 2),
    (1, 0x1C08, .sldH 8 3),
    (1, 0x207F, .sldHu 15 4),
    (1, 0x2D7E, .sldW 63 5),
    (2, 0xFFFF5F4A, .stB 11 0xFFFF 10)] = true := by decide +kernel

theorem test_words_load_and_store_2 : reads [
    (3, 0x0001600D078A, .stB23 12 0x80 10),
    (2, 0x00065F6A, .stH 11 3 10),
    (3, 0x0002602D07AA, .stH23 12 0x81 10),
    (2, 0x00055F6A, .stW 11 2 10),
    (3, 0xFFFF67CF078A, .stW23 12 0x3FFFFE 10),
    (1, 0x3381, .sstB 6 1),
    (1, 0x3481, .sstH 6 1),
    (1, 0x2D03, .sstW 5 1)] = true := by decide +kernel

theorem test_words_arithmetic_1 : reads [
    (1, 0x11C1, .add 1 2),
    (1, 0x125F, .addImm5 31 2),
    (2, 0xFFFE1601, .addi 0xFFFE 1 2),
    (2, 0x1BA217E1, .adf 1 1 2 3),
    (1, 0x11E1, .cmp 1 2),
    (1, 0x1265, .cmpImm5 5 2),
    (1, 0x1001, .mov 1 2),
    (1, 0x1210, .movImm5 16 2),
    (3, 0x123456780625, .movImm32 0x12345678 5),
    (2, 0xFFFC2623, .movea 0xFFFC 3 4),
    (2, 0x12342640, .movhi 0x1234 0 4),
    (2, 0x1B8217E1, .sbf 1 1 2 3),
    (1, 0x11A1, .sub 1 2),
    (1, 0x1181, .subr 1 2),
    (2, 0x1A2017E1, .mul 1 2 3),
    (2, 0x1A7C17FD, .mulImm9 509 2 3)] = true := by decide +kernel

theorem test_words_arithmetic_2 : reads [
    (1, 0x10E1, .mulh 1 2),
    (1, 0x12FE, .mulhImm5 30 2),
    (2, 0x800016E1, .mulhi 0x8000 1 2),
    (2, 0x1A2217E1, .mulu 1 2 3),
    (2, 0x1A7E17FF, .muluImm9 511 2 3),
    (2, 0x33C817E1, .mac 1 2 3 4),
    (2, 0x33E817E1, .macu 1 2 3 4)] = true := by decide +kernel

theorem test_words_saturated_and_logical : reads [
    (1, 0x10C1, .satadd 1 2),
    (1, 0x1230, .sataddImm5 16 2),
    (2, 0x1BBA17E1, .satadd3 1 2 3),
    (1, 0x10A1, .satsub 1 2),
    (2, 0x1B9A17E1, .satsub3 1 2 3),
    (2, 0x00011661, .satsubi 1 1 2),
    (1, 0x1081, .satsubr 1 2),
    (1, 0x1141, .and 1 2),
    (2, 0x00FF16C1, .andi 0xFF 1 2),
    (1, 0x1021, .not 1 2),
    (1, 0x1101, .or 1 2),
    (2, 0x80001681, .ori 0x8000 1 2),
    (1, 0x1161, .tst 1 2),
    (1, 0x1121, .xor 1 2),
    (2, 0xFFFF16A1, .xori 0xFFFF 1 2)] = true := by decide +kernel

theorem test_words_data_search_divide_1 : reads [
    (2, 0x1B4217E0, .bsh 2 3),
    (2, 0x1B4017E0, .bsw 2 3),
    (2, 0x1B4617E0, .hsh 2 3),
    (2, 0x1B4417E0, .hsw 2 3),
    (2, 0x1B2417E1, .cmov 2 1 2 3),
    (2, 0x1B0C17FF, .cmovImm5 6 31 2 3),
    (2, 0x020017E2, .sasf 2 2),
    (2, 0x000017EE, .setf 14 2),
    (2, 0x00A017E1, .sar 1 2),
    (1, 0x12A4, .sarImm5 4 2),
    (2, 0x18A217E1, .sar3 1 2 3),
    (2, 0x008017E1, .shr 1 2),
    (1, 0x1281, .shrImm5 1 2),
    (2, 0x188217E1, .shr3 1 2 3),
    (2, 0x00C017E1, .shl 1 2),
    (1, 0x12DF, .shlImm5 31 2)] = true := by decide +kernel

theorem test_words_data_search_divide_2 : reads [
    (2, 0x18C217E1, .shl3 1 2 3),
    (1, 0x00A1, .sxb 1),
    (1, 0x00E1, .sxh 1),
    (1, 0x0081, .zxb 1),
    (1, 0x00C1, .zxh 1),
    (2, 0x1B6417E0, .sch0l 2 3),
    (2, 0x1B6017E0, .sch0r 2 3),
    (2, 0x1B6617E0, .sch1l 2 3),
    (2, 0x1B6217E0, .sch1r 2 3),
    (2, 0x1AC017E1, .div 1 2 3),
    (1, 0x1041, .divhReg 1 2),
    (2, 0x1A8017E1, .divh 1 2 3),
    (2, 0x1A8217E1, .divhu 1 2 3),
    (2, 0x1AC217E1, .divu 1 2 3),
    (2, 0x1AFC17E1, .divq 1 2 3),
    (2, 0x1AFE17E1, .divqu 1 2 3)] = true := by decide +kernel

theorem test_words_branch_and_bit : reads [
    (1, 0xFDEA, .bcond 10 254),
    (2, 0x1000FF80, .jarl22 0x800 31),
    (3, 0x0010000002FF, .jarl32 0x80000 31),
    (1, 0x007F, .jmp 31),
    (3, 0x0000000806E5, .jmp32 4 5),
    (2, 0xFFF807BF, .jr22 0x1FFFFC),
    (3, 0x1234567802E0, .jr32 0x91A2B3C),
    (2, 0x00109FC1, .clr1 3 16 1),
    (2, 0x00E417E1, .clr1Reg 2 1),
    (2, 0xFFFF47C1, .not1 0 0xFFFF 1),
    (2, 0x00E217E1, .not1Reg 2 1),
    (2, 0x00003FC1, .set1 7 0 1),
    (2, 0x00E017E1, .set1Reg 2 1),
    (2, 0x0002EFC1, .tst1 5 2 1),
    (2, 0x00E617E1, .tst1Reg 2 1)] = true := by decide +kernel

theorem test_words_special_1 : reads [
    (1, 0x0205, .callt 5),
    (2, 0x18EE17E1, .caxi 1 2 3),
    (2, 0x014407E0, .ctret),
    (2, 0x016007E0, .di),
    (2, 0x00600648, .dispose 0x006 4),
    (2, 0x007F0648, .disposeJmp 0x006 4 31),
    (2, 0x016087E0, .ei),
    (2, 0x014807E0, .eiret),
    (2, 0x014A07E0, .feret),
    (1, 0x0840, .fetrap 1),
    (2, 0x012007E0, .halt),
    (2, 0x00202FEA, .ldsr 10 5),
    (1, 0x0000, .nop),
    (2, 0x00610788, .prepare 0x006 4),
    (2, 0x00630788, .prepareSp 0x006 4),
    (3, 0x8000006B0788, .prepareImm16 0x006 4 0x8000)] = true := by decide +kernel

theorem test_words_special_2 : reads [
    (3, 0x123400730788, .prepareImm16Shl 0x006 4 0x1234),
    (4, 0x12345678007B0788, .prepareImm32 0x006 4 0x12345678),
    (2, 0x014007E0, .reti),
    (1, 0x0040, .rie),
    (2, 0x00000FF2, .rieImm 1 2),
    (2, 0x004057E5, .stsr 5 10),
    (1, 0x0045, .switch 5),
    (2, 0x0960D7E5, .syscall 0x25),
    (2, 0x010007F1, .trap 0x11),
    (1, 0x001D, .synce),
    (1, 0x001E, .syncm),
    (1, 0x001F, .syncp)] = true := by decide +kernel

theorem test_words_floating_point_arithmetic_1 : reads [
    (2, 0x345827E0, .absfD 2 3),
    (2, 0x344827E0, .absfS 4 6),
    (2, 0x347027E2, .addfD 1 2 3),
    (2, 0x1C6017E1, .addfS 1 2 3),
    (2, 0x347227E2, .subfD 1 2 3),
    (2, 0x1C6217E1, .subfS 1 2 3),
    (2, 0x347427E2, .mulfD 1 2 3),
    (2, 0x1C6417E1, .mulfS 1 2 3),
    (2, 0x347E27E2, .divfD 1 2 3),
    (2, 0x1C6E17E1, .divfS 1 2 3),
    (2, 0x347827E2, .maxfD 1 2 3),
    (2, 0x1C6817E1, .maxfS 1 2 3),
    (2, 0x347A27E2, .minfD 1 2 3),
    (2, 0x1C6A17E1, .minfS 1 2 3),
    (2, 0x345827E1, .negfD 2 3),
    (2, 0x344827E1, .negfS 4 6)] = true := by decide +kernel

theorem test_words_floating_point_arithmetic_2 : reads [
    (2, 0x345E27E0, .sqrtfD 2 3),
    (2, 0x344E27E0, .sqrtfS 4 6),
    (2, 0x345E27E1, .recipfD 2 3),
    (2, 0x344E27E1, .recipfS 4 6),
    (2, 0x345E27E2, .rsqrtfD 2 3),
    (2, 0x344E27E2, .rsqrtfS 4 6),
    (2, 0x1D8417E1, .maddfS 1 2 3 5),
    (2, 0x1D2417E1, .msubfS 1 2 3 4),
    (2, 0x1D4417E1, .nmaddfS 1 2 3 4),
    (2, 0x1DFE17E1, .nmsubfS 1 2 3 31)] = true := by decide +kernel

theorem test_words_floating_point_conversion_1 : reads [
    (2, 0x345427E2, .ceilfDl 2 3),
    (2, 0x345427F2, .ceilfDul 2 3),
    (2, 0x345027F2, .ceilfDuw 2 6),
    (2, 0x345027E2, .ceilfDw 2 6),
    (2, 0x344427E2, .ceilfSl 4 3),
    (2, 0x344427F2, .ceilfSul 4 3),
    (2, 0x344027F2, .ceilfSuw 4 6),
    (2, 0x344027E2, .ceilfSw 4 6),
    (2, 0x345427E3, .floorfDl 2 3),
    (2, 0x345427F3, .floorfDul 2 3),
    (2, 0x345027F3, .floorfDuw 2 6),
    (2, 0x345027E3, .floorfDw 2 6),
    (2, 0x344427E3, .floorfSl 4 3),
    (2, 0x344427F3, .floorfSul 4 3),
    (2, 0x344027F3, .floorfSuw 4 6),
    (2, 0x344027E3, .floorfSw 4 6)] = true := by decide +kernel

theorem test_words_floating_point_conversion_2 : reads [
    (2, 0x345427E1, .trncfDl 2 3),
    (2, 0x345427F1, .trncfDul 2 3),
    (2, 0x345027F1, .trncfDuw 2 6),
    (2, 0x345027E1, .trncfDw 2 6),
    (2, 0x344427E1, .trncfSl 4 3),
    (2, 0x344427F1, .trncfSul 4 3),
    (2, 0x344027F1, .trncfSuw 4 6),
    (2, 0x344027E1, .trncfSw 4 6),
    (2, 0x345427E4, .cvtfDl 2 3),
    (2, 0x345427F4, .cvtfDul 2 3),
    (2, 0x345027F4, .cvtfDuw 2 6),
    (2, 0x345027E4, .cvtfDw 2 6),
    (2, 0x344427E4, .cvtfSl 4 3),
    (2, 0x344427F4, .cvtfSul 4 3),
    (2, 0x344027F4, .cvtfSuw 4 6),
    (2, 0x344027E4, .cvtfSw 4 6)] = true := by decide +kernel

theorem test_words_floating_point_conversion_3 : reads [
    (2, 0x345227E3, .cvtfDs 2 6),
    (2, 0x345227E2, .cvtfSd 4 3),
    (2, 0x345227E1, .cvtfLd 2 3),
    (2, 0x344227E1, .cvtfLs 2 6),
    (2, 0x345227F1, .cvtfUld 2 3),
    (2, 0x344227F1, .cvtfUls 2 6),
    (2, 0x345227F0, .cvtfUwd 4 3),
    (2, 0x344227F0, .cvtfUws 4 6),
    (2, 0x345227E0, .cvtfWd 4 3),
    (2, 0x344227E0, .cvtfWs 4 6)] = true := by decide +kernel

theorem test_words_floating_point_compare_and_move : reads [
    (2, 0x243067EE, .cmpfD 4 6 7 0),
    (2, 0x7C2617E1, .cmpfS 15 2 1 3),
    (2, 0x341027E2, .cmovfD 0 1 2 3),
    (2, 0x1C0417E1, .cmovfS 2 1 2 3),
    (2, 0x040E07E0, .trfsr 7)] = true := by decide +kernel

/-! ### One step of every instruction -/

theorem test_ld_b : (gives (.ldB 0xFFFC 10 11) (bytes 0x1000 [0x80] (start [(10, 0x1004)])) fun t => t.reg 11 == 0xFFFFFF80) = true := by decide +kernel
theorem test_ld_b23 : (gives (.ldB23 0x12345 10 12) (bytes 0x12345 [0x7F] (start [(10, 0x0)])) fun t => t.reg 12 == 0x7F) = true := by decide +kernel
theorem test_ld_bu : (gives (.ldBu 3 10 11) (bytes 0x1003 [0x80] (start [(10, 0x1000)])) fun t => t.reg 11 == 0x80) = true := by decide +kernel
theorem test_ld_bu23 : (gives (.ldBu23 0x7FFFFF 10 12) (bytes 0x1000 [0x80] (start [(10, 0x1001)])) fun t => t.reg 12 == 0x80) = true := by decide +kernel
theorem test_ld_h : (gives (.ldH 0x80 1 2) (bytes 0x1100 [0x34, 0xF2] (start [(1, 0x1000)])) fun t => t.reg 2 == 0xFFFFF234) = true := by decide +kernel
theorem test_ld_h23 : (gives (.ldH23 0x200000 1 2) (at_ 0x2000 (bytes 0x0 [0x34, 0xF2] (start [(1, 0x400000)]))) fun t => t.reg 2 == 0xFFFFF234) = true := by decide +kernel
theorem test_ld_hu : (gives (.ldHu 0x7FFF 5 6) (at_ 0x2000 (bytes 0x1000 [0x34, 0xF2] (start [(5, 0x1002)]))) fun t => t.reg 6 == 0xF234) = true := by decide +kernel
theorem test_ld_hu23 : (gives (.ldHu23 0x1FFFFF 5 6) (bytes 0x3FFFFE [0x34, 0xF2] (start [(5, 0x0)])) fun t => t.reg 6 == 0xF234) = true := by decide +kernel
theorem test_ld_w : (gives (.ldW 4 3 7) (bytes 0x1008 [0x78, 0x56, 0x34, 0x12] (start [(3, 0x1000)])) fun t => t.reg 7 == 0x12345678) = true := by decide +kernel
theorem test_ld_w23 : (gives (.ldW23 0x8000 0 7) (bytes 0x10000 [0x78, 0x56, 0x34, 0x12] (start [])) fun t => t.reg 7 == 0x12345678) = true := by decide +kernel
theorem test_sld_b : (gives (.sldB 0x7F 1) (bytes 0x107F [0x80] (start [(30, 0x1000)])) fun t => t.reg 1 == 0xFFFFFF80) = true := by decide +kernel
theorem test_sld_bu : (gives (.sldBu 15 2) (bytes 0x100F [0x80] (start [(30, 0x1000)])) fun t => t.reg 2 == 0x80) = true := by decide +kernel
theorem test_sld_h : (gives (.sldH 8 3) (bytes 0x1010 [0x34, 0xF2] (start [(30, 0x1000)])) fun t => t.reg 3 == 0xFFFFF234) = true := by decide +kernel
theorem test_sld_hu : (gives (.sldHu 15 4) (bytes 0x101E [0x34, 0xF2] (start [(30, 0x1000)])) fun t => t.reg 4 == 0xF234) = true := by decide +kernel
theorem test_sld_w : (gives (.sldW 63 5) (bytes 0x10FC [0x78, 0x56, 0x34, 0x12] (start [(30, 0x1000)])) fun t => t.reg 5 == 0x12345678) = true := by decide +kernel
theorem test_st_b : (gives (.stB 11 0xFFFF 10) (start [(10, 0x1001), (11, 0x12345678)]) fun t => t.mem.read (0x1000+0) == 0x78 && t.mem.read (0x1001+0) == 0x00) = true := by decide +kernel
theorem test_st_b23 : (gives (.stB23 12 0x80 10) (start [(10, 0x1000), (12, 0x12345678)]) fun t => t.mem.read (0x1080+0) == 0x78 && t.mem.read (0x1080+1) == 0x00) = true := by decide +kernel
theorem test_st_h : (gives (.stH 11 3 10) (start [(10, 0x1000), (11, 0x12345678)]) fun t => t.mem.read (0x1006+0) == 0x78 && t.mem.read (0x1006+1) == 0x56 && t.mem.read (0x1006+2) == 0x00) = true := by decide +kernel
theorem test_st_h23 : (gives (.stH23 12 0x81 10) (start [(10, 0x1000), (12, 0x12345678)]) fun t => t.mem.read (0x1102+0) == 0x78 && t.mem.read (0x1102+1) == 0x56 && t.mem.read (0x1102+2) == 0x00) = true := by decide +kernel
theorem test_st_w : (gives (.stW 11 2 10) (start [(10, 0x1000), (11, 0x12345678)]) fun t => t.mem.read (0x1004+0) == 0x78 && t.mem.read (0x1004+1) == 0x56 && t.mem.read (0x1004+2) == 0x34 && t.mem.read (0x1004+3) == 0x12 && t.mem.read (0x1004+4) == 0x00) = true := by decide +kernel
theorem test_st_w23 : (gives (.stW23 12 0x3FFFFE 10) (start [(10, 0x1004), (12, 0x12345678)]) fun t => t.mem.read (0x1000+0) == 0x78 && t.mem.read (0x1000+1) == 0x56 && t.mem.read (0x1000+2) == 0x34 && t.mem.read (0x1000+3) == 0x12 && t.mem.read (0x1000+4) == 0x00) = true := by decide +kernel
theorem test_sst_b : (gives (.sstB 6 1) (start [(30, 0x1000), (6, 0x12345678)]) fun t => t.mem.read (0x1001+0) == 0x78 && t.mem.read (0x1001+1) == 0x00) = true := by decide +kernel
theorem test_sst_h : (gives (.sstH 6 1) (start [(30, 0x1000), (6, 0x12345678)]) fun t => t.mem.read (0x1002+0) == 0x78 && t.mem.read (0x1002+1) == 0x56 && t.mem.read (0x1002+2) == 0x00) = true := by decide +kernel
theorem test_sst_w : (gives (.sstW 5 1) (start [(30, 0x1000), (5, 0x12345678)]) fun t => t.mem.read (0x1004+0) == 0x78 && t.mem.read (0x1004+1) == 0x56 && t.mem.read (0x1004+2) == 0x34 && t.mem.read (0x1004+3) == 0x12 && t.mem.read (0x1004+4) == 0x00) = true := by decide +kernel
theorem test_add : (gives (.add 1 2) (setPsw 0x0 (start [(1, 0x1), (2, 0x7FFFFFFF)])) fun t => t.reg 2 == 0x80000000 && t.psw == 0x6) = true := by decide +kernel
theorem test_add_imm5 : (gives (.addImm5 31 2) (setPsw 0x0 (start [(2, 0x0)])) fun t => t.reg 2 == 0xFFFFFFFF && t.psw == 0x2) = true := by decide +kernel
theorem test_addi : (gives (.addi 0xFFFE 1 2) (start [(1, 0x1)]) fun t => t.reg 2 == 0xFFFFFFFF && t.psw == 0x22) = true := by decide +kernel
theorem test_adf : (gives (.adf 1 1 2 3) (setPsw 0x8 (start [(1, 0xFFFFFFFF), (2, 0x0)])) fun t => t.reg 3 == 0x0 && t.psw == 0x9) = true := by decide +kernel
theorem test_cmp : (gives (.cmp 1 2) (setPsw 0x0 (start [(2, 0x1), (1, 0x2)])) fun t => t.psw == 0xA && t.reg 2 == 0x1) = true := by decide +kernel
theorem test_cmp_imm5 : (gives (.cmpImm5 5 2) (setPsw 0x0 (start [(2, 0x5)])) fun t => t.psw == 0x1) = true := by decide +kernel
theorem test_mov : (gives (.mov 1 2) (setPsw 0xF (start [(1, 0xFFFFFFFF)])) fun t => t.reg 2 == 0xFFFFFFFF && t.psw == 0xF) = true := by decide +kernel
theorem test_mov_imm5 : (gives (.movImm5 16 2) (start []) fun t => t.reg 2 == 0xFFFFFFF0 && t.psw == 0x20) = true := by decide +kernel
theorem test_mov_imm32 : (gives (.movImm32 0x12345678 5) (start []) fun t => t.reg 5 == 0x12345678 && t.pc == 0x8006) = true := by decide +kernel
theorem test_movea : (gives (.movea 0xFFFC 3 4) (start [(3, 0x1000)]) fun t => t.reg 4 == 0xFFC && t.psw == 0x20) = true := by decide +kernel
theorem test_movhi : (gives (.movhi 0x1234 0 4) (start []) fun t => t.reg 4 == 0x12340000) = true := by decide +kernel
theorem test_sbf : (gives (.sbf 1 1 2 3) (setPsw 0x8 (start [(1, 0x0), (2, 0x0)])) fun t => t.reg 3 == 0xFFFFFFFF && t.psw == 0xA) = true := by decide +kernel
theorem test_sub : (gives (.sub 1 2) (setPsw 0x0 (start [(2, 0x80000000), (1, 0x1)])) fun t => t.reg 2 == 0x7FFFFFFF && t.psw == 0x4) = true := by decide +kernel
theorem test_subr : (gives (.subr 1 2) (setPsw 0xF (start [(1, 0x5), (2, 0x3)])) fun t => t.reg 2 == 0x2 && t.psw == 0x0) = true := by decide +kernel
theorem test_mul : (gives (.mul 1 2 3) (start [(2, 0x80000000), (1, 0xFFFFFFFF)]) fun t => t.reg 3 == 0x0 && t.reg 2 == 0x80000000) = true := by decide +kernel
theorem test_mul_imm9 : (gives (.mulImm9 509 2 3) (start [(2, 0x2)]) fun t => t.reg 2 == 0xFFFFFFFA && t.reg 3 == 0xFFFFFFFF) = true := by decide +kernel
theorem test_mulh : (gives (.mulh 1 2) (start [(2, 0x12348000), (1, 0xFFFF)]) fun t => t.reg 2 == 0x8000) = true := by decide +kernel
theorem test_mulh_imm5 : (gives (.mulhImm5 30 2) (start [(2, 0x3)]) fun t => t.reg 2 == 0xFFFFFFFA) = true := by decide +kernel
theorem test_mulhi : (gives (.mulhi 0x8000 1 2) (start [(1, 0x8000)]) fun t => t.reg 2 == 0x40000000) = true := by decide +kernel
theorem test_mulu : (gives (.mulu 1 2 3) (start [(2, 0x80000000), (1, 0xFFFFFFFF)]) fun t => t.reg 3 == 0x7FFFFFFF && t.reg 2 == 0x80000000) = true := by decide +kernel
theorem test_mulu_imm9 : (gives (.muluImm9 511 2 3) (start [(2, 0xFFFFFFFF)]) fun t => t.reg 2 == 0xFFFFFE01 && t.reg 3 == 0x1FE) = true := by decide +kernel
theorem test_mac : (gives (.mac 1 2 3 4) (start [(1, 0x7FFFFFFF), (2, 0x7FFFFFFF), (6, 0xFFFFFFFF), (7, 0xFFFFFFFF)]) fun t => t.pair 4 == 0x3FFFFFFF00000000) = true := by decide +kernel
theorem test_macu : (gives (.macu 1 2 3 4) (start [(1, 0xFFFFFFFF), (2, 0xFFFFFFFF), (6, 0xFFFFFFFF), (7, 0xFFFFFFFF)]) fun t => t.pair 4 == 0xFFFFFFFE00000000) = true := by decide +kernel
theorem test_satadd : (gives (.satadd 1 2) (setPsw 0x0 (start [(2, 0x7FFFFFFF), (1, 0x1)])) fun t => t.reg 2 == 0x7FFFFFFF && t.psw == 0x14) = true := by decide +kernel
theorem test_satadd_imm5 : (gives (.sataddImm5 16 2) (setPsw 0x0 (start [(2, 0x80000005)])) fun t => t.reg 2 == 0x80000000 && t.psw == 0x1E) = true := by decide +kernel
theorem test_satadd3 : (gives (.satadd3 1 2 3) (setPsw 0x0 (start [(1, 0x80000000), (2, 0x80000000)])) fun t => t.reg 3 == 0x80000000 && t.psw == 0x1E) = true := by decide +kernel
theorem test_satsub : (gives (.satsub 1 2) (setPsw 0x0 (start [(2, 0x80000000), (1, 0x1)])) fun t => t.reg 2 == 0x80000000 && t.psw == 0x16) = true := by decide +kernel
theorem test_satsub3 : (gives (.satsub3 1 2 3) (setPsw 0x0 (start [(2, 0x7FFFFFFF), (1, 0xFFFFFFFF)])) fun t => t.reg 3 == 0x7FFFFFFF && t.psw == 0x1C) = true := by decide +kernel
theorem test_satsubi : (gives (.satsubi 1 1 2) (setPsw 0x0 (start [(1, 0x80000000)])) fun t => t.reg 2 == 0x80000000 && t.psw == 0x16) = true := by decide +kernel
theorem test_satsubr : (gives (.satsubr 1 2) (setPsw 0x0 (start [(1, 0x0), (2, 0x80000000)])) fun t => t.reg 2 == 0x7FFFFFFF && t.psw == 0x1C) = true := by decide +kernel
theorem test_and : (gives (.and 1 2) (setPsw 0xE (start [(2, 0xF0F0F0F0), (1, 0x0F0F0F0F)])) fun t => t.reg 2 == 0x0 && t.psw == 0x9) = true := by decide +kernel
theorem test_andi : (gives (.andi 0xFF 1 2) (start [(1, 0x12345678)]) fun t => t.reg 2 == 0x78) = true := by decide +kernel
theorem test_not : (gives (.not 1 2) (setPsw 0x5 (start [(1, 0x0)])) fun t => t.reg 2 == 0xFFFFFFFF && t.psw == 0x2) = true := by decide +kernel
theorem test_or : (gives (.or 1 2) (start [(1, 0xF0), (2, 0xF)]) fun t => t.reg 2 == 0xFF) = true := by decide +kernel
theorem test_ori : (gives (.ori 0x8000 1 2) (setPsw 0x3 (start [(1, 0x0)])) fun t => t.reg 2 == 0x8000 && t.psw == 0x0) = true := by decide +kernel
theorem test_tst : (gives (.tst 1 2) (setPsw 0x5 (start [(2, 0x80000000), (1, 0xFFFFFFFF)])) fun t => t.psw == 0x2 && t.reg 2 == 0x80000000) = true := by decide +kernel
theorem test_xor : (gives (.xor 1 2) (start [(1, 0xFF), (2, 0xF0)]) fun t => t.reg 2 == 0xF) = true := by decide +kernel
theorem test_xori : (gives (.xori 0xFFFF 1 2) (setPsw 0x0 (start [(1, 0xFFFF0000)])) fun t => t.reg 2 == 0xFFFFFFFF && t.psw == 0x2) = true := by decide +kernel
theorem test_bsh : (gives (.bsh 2 3) (setPsw 0x7 (start [(2, 0x11223300)])) fun t => t.reg 3 == 0x22110033 && t.psw == 0x8) = true := by decide +kernel
theorem test_bsw : (gives (.bsw 2 3) (setPsw 0xF (start [(2, 0x11223344)])) fun t => t.reg 3 == 0x44332211 && t.psw == 0x0) = true := by decide +kernel
theorem test_hsh : (gives (.hsh 2 3) (setPsw 0x4 (start [(2, 0x80000000)])) fun t => t.reg 3 == 0x80000000 && t.psw == 0xB) = true := by decide +kernel
theorem test_hsw : (gives (.hsw 2 3) (setPsw 0x5 (start [(2, 0x8000)])) fun t => t.reg 3 == 0x80000000 && t.psw == 0xA) = true := by decide +kernel
theorem test_cmov : (gives (.cmov 2 1 2 3) (setPsw 0x1 (start [(1, 0x5), (2, 0x6)])) fun t => t.reg 3 == 0x5) = true := by decide +kernel
theorem test_cmov_imm5 : (gives (.cmovImm5 6 31 2 3) (setPsw 0x2 (start [(2, 0x6)])) fun t => t.reg 3 == 0xFFFFFFFF) = true := by decide +kernel
theorem test_sasf : (gives (.sasf 2 2) (setPsw 0x1 (start [(2, 0x80000001)])) fun t => t.reg 2 == 0x3) = true := by decide +kernel
theorem test_setf : (gives (.setf 14 2) (setPsw 0x6 (start [])) fun t => t.reg 2 == 0x1) = true := by decide +kernel
theorem test_sar : (gives (.sar 1 2) (setPsw 0xD (start [(2, 0x80000000), (1, 0x1F)])) fun t => t.reg 2 == 0xFFFFFFFF && t.psw == 0x2) = true := by decide +kernel
theorem test_sar_imm5 : (gives (.sarImm5 4 2) (setPsw 0x0 (start [(2, 0xFFFFFF18)])) fun t => t.reg 2 == 0xFFFFFFF1 && t.psw == 0xA) = true := by decide +kernel
theorem test_sar3 : (gives (.sar3 1 2 3) (start [(1, 0x4), (2, 0xFFFFFF18)]) fun t => t.reg 3 == 0xFFFFFFF1 && t.reg 2 == 0xFFFFFF18) = true := by decide +kernel
theorem test_shr : (gives (.shr 1 2) (setPsw 0x0 (start [(2, 0x80000001), (1, 0x21)])) fun t => t.reg 2 == 0x40000000 && t.psw == 0x8) = true := by decide +kernel
theorem test_shr_imm5 : (gives (.shrImm5 1 2) (setPsw 0x0 (start [(2, 0x1)])) fun t => t.reg 2 == 0x0 && t.psw == 0x9) = true := by decide +kernel
theorem test_shr3 : (gives (.shr3 1 2 3) (start [(1, 0x4), (2, 0xFFFFFF18)]) fun t => t.reg 3 == 0x0FFFFFF1 && t.reg 2 == 0xFFFFFF18) = true := by decide +kernel
theorem test_shl : (gives (.shl 1 2) (setPsw 0x0 (start [(2, 0xC0000001), (1, 0x1)])) fun t => t.reg 2 == 0x80000002 && t.psw == 0xA) = true := by decide +kernel
theorem test_shl_imm5 : (gives (.shlImm5 31 2) (setPsw 0x0 (start [(2, 0x3)])) fun t => t.reg 2 == 0x80000000 && t.psw == 0xA) = true := by decide +kernel
theorem test_shl3 : (gives (.shl3 1 2 3) (setPsw 0x8 (start [(1, 0x0), (2, 0x7)])) fun t => t.reg 3 == 0x7 && t.psw == 0x0) = true := by decide +kernel
theorem test_sxb : (gives (.sxb 1) (start [(1, 0x12345680)]) fun t => t.reg 1 == 0xFFFFFF80) = true := by decide +kernel
theorem test_sxh : (gives (.sxh 1) (start [(1, 0x12348000)]) fun t => t.reg 1 == 0xFFFF8000) = true := by decide +kernel
theorem test_zxb : (gives (.zxb 1) (start [(1, 0x123456FF)]) fun t => t.reg 1 == 0xFF) = true := by decide +kernel
theorem test_zxh : (gives (.zxh 1) (start [(1, 0xFFFF8000)]) fun t => t.reg 1 == 0x8000) = true := by decide +kernel
theorem test_sch0l : (gives (.sch0l 2 3) (setPsw 0xF (start [(2, 0xF7FFFFFF)])) fun t => t.reg 3 == 0x5 && t.psw == 0x0) = true := by decide +kernel
theorem test_sch0r : (gives (.sch0r 2 3) (start [(2, 0x7)]) fun t => t.reg 3 == 0x4 && t.psw == 0x20) = true := by decide +kernel
theorem test_sch1l : (gives (.sch1l 2 3) (setPsw 0xF (start [(2, 0x10000)])) fun t => t.reg 3 == 0x10 && t.psw == 0x0) = true := by decide +kernel
theorem test_sch1r : (gives (.sch1r 2 3) (setPsw 0x0 (start [(2, 0x80000000)])) fun t => t.reg 3 == 0x20 && t.psw == 0x8) = true := by decide +kernel
theorem test_div : (gives (.div 1 2 3) (setPsw 0x5 (start [(2, 0xFFFFFFF9), (1, 0x2)])) fun t => t.reg 2 == 0xFFFFFFFD && t.reg 3 == 0xFFFFFFFF && t.psw == 0x2) = true := by decide +kernel
theorem test_divh_reg : (gives (.divhReg 1 2) (setPsw 0x5 (start [(2, 0x64), (1, 0x1234FFF9)])) fun t => t.reg 2 == 0xFFFFFFF2 && t.psw == 0x2) = true := by decide +kernel
theorem test_divh : (gives (.divh 1 2 3) (setPsw 0x1 (start [(2, 0x80000000), (1, 0xFFFF)])) fun t => t.reg 2 == 0x80000000 && t.reg 3 == 0x0 && t.psw == 0x6) = true := by decide +kernel
theorem test_divhu : (gives (.divhu 1 2 3) (setPsw 0x5 (start [(2, 0xFFFFFFFF), (1, 0x12340001)])) fun t => t.reg 2 == 0xFFFFFFFF && t.reg 3 == 0x0 && t.psw == 0x2) = true := by decide +kernel
theorem test_divu : (gives (.divu 1 2 3) (setPsw 0x7 (start [(2, 0xFFFFFFF9), (1, 0x2)])) fun t => t.reg 2 == 0x7FFFFFFC && t.reg 3 == 0x1 && t.psw == 0x0) = true := by decide +kernel
theorem test_divq : (gives (.divq 1 2 3) (setPsw 0x5 (start [(2, 0xFFFFFFF9), (1, 0x2)])) fun t => t.reg 2 == 0xFFFFFFFD && t.reg 3 == 0xFFFFFFFF && t.psw == 0x2) = true := by decide +kernel
theorem test_divqu : (gives (.divqu 1 2 3) (setPsw 0x7 (start [(2, 0xFFFFFFF9), (1, 0x2)])) fun t => t.reg 2 == 0x7FFFFFFC && t.reg 3 == 0x1 && t.psw == 0x0) = true := by decide +kernel
theorem test_bcond : (gives (.bcond 10 254) (setPsw 0x0 (at_ 0x1000 (start []))) fun t => t.pc == 0xFFC) = true := by decide +kernel
theorem test_jarl22 : (gives (.jarl22 0x800 31) (at_ 0x2000 (start [])) fun t => t.reg 31 == 0x2004 && t.pc == 0x3000) = true := by decide +kernel
theorem test_jarl32 : (gives (.jarl32 0x80000 31) (at_ 0x2000 (start [])) fun t => t.reg 31 == 0x2006 && t.pc == 0x102000) = true := by decide +kernel
theorem test_jmp : (gives (.jmp 31) (start [(31, 0x2005)]) fun t => t.pc == 0x2004) = true := by decide +kernel
theorem test_jmp32 : (gives (.jmp32 4 5) (start [(5, 0x3001)]) fun t => t.pc == 0x3008) = true := by decide +kernel
theorem test_jr22 : (gives (.jr22 0x1FFFFC) (at_ 0x1008 (start [])) fun t => t.pc == 0x1000) = true := by decide +kernel
theorem test_jr32 : (gives (.jr32 0x91A2B3C) (at_ 0x100 (start [])) fun t => t.pc == 0x12345778) = true := by decide +kernel
theorem test_clr1 : (gives (.clr1 3 16 1) (setPsw 0x1 (at_ 0x2000 (bytes 0x1010 [0xFF] (start [(1, 0x1000)])))) fun t => t.mem.read (0x1010+0) == 0xF7 && t.psw == 0x0) = true := by decide +kernel
theorem test_clr1_reg : (gives (.clr1Reg 2 1) (setPsw 0x0 (at_ 0x2000 (bytes 0x1000 [0x7F] (start [(1, 0x1000), (2, 0xF)])))) fun t => t.mem.read (0x1000+0) == 0x7F && t.psw == 0x1) = true := by decide +kernel
theorem test_not1 : (gives (.not1 0 0xFFFF 1) (setPsw 0x0 (start [(1, 0x1000)])) fun t => t.mem.read (0xFFF+0) == 0x01 && t.psw == 0x1) = true := by decide +kernel
theorem test_not1_reg : (gives (.not1Reg 2 1) (setPsw 0x1 (bytes 0x3000 [0xFF] (start [(1, 0x3000), (2, 0x3)]))) fun t => t.mem.read (0x3000+0) == 0xF7 && t.psw == 0x0) = true := by decide +kernel
theorem test_set1 : (gives (.set1 7 0 1) (setPsw 0x0 (bytes 0x3000 [0x01] (start [(1, 0x3000)]))) fun t => t.mem.read (0x3000+0) == 0x81 && t.psw == 0x1) = true := by decide +kernel
theorem test_set1_reg : (gives (.set1Reg 2 1) (setPsw 0x0 (start [(1, 0x3000), (2, 0x9)])) fun t => t.mem.read (0x3000+0) == 0x02 && t.psw == 0x1) = true := by decide +kernel
theorem test_tst1 : (gives (.tst1 5 2 1) (setPsw 0x1 (bytes 0x3002 [0x20] (start [(1, 0x3000)]))) fun t => t.psw == 0x0 && t.mem.read (0x3002+0) == 0x20) = true := by decide +kernel
theorem test_tst1_reg : (gives (.tst1Reg 2 1) (setPsw 0x1 (bytes 0x3000 [0x20] (start [(1, 0x3000), (2, 0x5)]))) fun t => t.psw == 0x0 && t.mem.read (0x3000+0) == 0x20) = true := by decide +kernel
theorem test_callt : (gives (.callt 5) (setPsw 0x21 (at_ 0x1000 (bytes 0x200A [0x20, 0x01] ((fun s => { s with main := { s.main with ctbp := 0x2000 } }) (start []))))) fun t => t.main.ctpc == 0x1002 && t.main.ctpsw == 0x21 && t.pc == 0x2120) = true := by decide +kernel
theorem test_caxi : (gives (.caxi 1 2 3) (setPsw 0xE (start [(1, 0x3003), (2, 0x0), (3, 0x1)])) fun t => t.mem.read (0x3000+0) == 0x01 && t.mem.read (0x3000+1) == 0x00 && t.mem.read (0x3000+2) == 0x00 && t.mem.read (0x3000+3) == 0x00 && t.reg 3 == 0x0 && t.psw == 0x1) = true := by decide +kernel
theorem test_ctret : (gives (.ctret) ((fun s => { s with main := { s.main with ctpsw := 0x21 } }) ((fun s => { s with main := { s.main with ctpc := 0x1002 } }) (start []))) fun t => t.pc == 0x1002 && t.psw == 0x21) = true := by decide +kernel
theorem test_di : (gives (.di) (setPsw 0x0 (start [])) fun t => t.psw == 0x20) = true := by decide +kernel
theorem test_dispose : (gives (.dispose 0x006 4) (at_ 0x2000 (bytes 0x1010 [0x11, 0x11, 0x11, 0x11, 0x22, 0x22, 0x22, 0x22] (start [(3, 0x1000)]))) fun t => t.reg 31 == 0x11111111 && t.reg 29 == 0x22222222 && t.reg 3 == 0x1018) = true := by decide +kernel
theorem test_dispose_jmp : (gives (.disposeJmp 0x006 4 31) (at_ 0x2000 (bytes 0x1010 [0x11, 0x11, 0x11, 0x11, 0x22, 0x22, 0x22, 0x22] (start [(3, 0x1000)]))) fun t => t.reg 31 == 0x11111111 && t.reg 29 == 0x22222222 && t.reg 3 == 0x1018 && t.pc == 0x11111110) = true := by decide +kernel
theorem test_ei : (gives (.ei) (setPsw 0x20 (start [])) fun t => t.psw == 0x0) = true := by decide +kernel
theorem test_eiret : (gives (.eiret) (setPsw 0x60 ((fun s => { s with main := { s.main with eipsw := 0x0 } }) ((fun s => { s with main := { s.main with eipc := 0x1234 } }) (start [])))) fun t => t.pc == 0x1234 && t.psw == 0x0 && t.reports.length == 0) = true := by decide +kernel
theorem test_feret : (gives (.feret) (setPsw 0xE0 ((fun s => { s with main := { s.main with fepsw := 0x20 } }) ((fun s => { s with main := { s.main with fepc := 0x100 } }) (start [])))) fun t => t.pc == 0x100 && t.psw == 0x20) = true := by decide +kernel
theorem test_fetrap : (gives (.fetrap 1) (setPsw 0x0 (at_ 0x1000 (start []))) fun t => t.main.fepc == 0x1002 && t.main.fepsw == 0x0 && t.main.feic == 0x31 && t.main.ecr == 0x310000 && t.psw == 0xE0 && t.pc == 0x30) = true := by decide +kernel
theorem test_halt : (gives (.halt) (at_ 0x2000 (start [])) fun t => t.halted == true && t.pc == 0x2004) = true := by decide +kernel
theorem test_ldsr : (gives (.ldsr 10 5) (setPsw 0xF (start [(10, 0x20)])) fun t => t.psw == 0x20) = true := by decide +kernel
theorem test_nop : (gives (.nop) (setPsw 0xF (start [])) fun t => t.pc == 0x8002 && t.psw == 0xF) = true := by decide +kernel
theorem test_prepare : (gives (.prepare 0x006 4) (at_ 0x2000 (start [(3, 0x1018), (29, 0x22222222), (31, 0x11111111)])) fun t => t.mem.read (0x1010+0) == 0x11 && t.mem.read (0x1010+1) == 0x11 && t.mem.read (0x1010+2) == 0x11 && t.mem.read (0x1010+3) == 0x11 && t.mem.read (0x1010+4) == 0x22 && t.mem.read (0x1010+5) == 0x22 && t.mem.read (0x1010+6) == 0x22 && t.mem.read (0x1010+7) == 0x22 && t.mem.read (0x1010+8) == 0x00 && t.reg 3 == 0x1000) = true := by decide +kernel
theorem test_prepare_sp : (gives (.prepareSp 0x006 4) (at_ 0x2000 (start [(3, 0x1018), (29, 0x22222222), (31, 0x11111111)])) fun t => t.mem.read (0x1010+0) == 0x11 && t.mem.read (0x1010+1) == 0x11 && t.mem.read (0x1010+2) == 0x11 && t.mem.read (0x1010+3) == 0x11 && t.mem.read (0x1010+4) == 0x22 && t.mem.read (0x1010+5) == 0x22 && t.mem.read (0x1010+6) == 0x22 && t.mem.read (0x1010+7) == 0x22 && t.mem.read (0x1010+8) == 0x00 && t.reg 3 == 0x1000 && t.reg 30 == 0x1000) = true := by decide +kernel
theorem test_prepare_imm16 : (gives (.prepareImm16 0x006 4 0x8000) (at_ 0x2000 (start [(3, 0x1018), (29, 0x22222222), (31, 0x11111111)])) fun t => t.mem.read (0x1010+0) == 0x11 && t.mem.read (0x1010+1) == 0x11 && t.mem.read (0x1010+2) == 0x11 && t.mem.read (0x1010+3) == 0x11 && t.mem.read (0x1010+4) == 0x22 && t.mem.read (0x1010+5) == 0x22 && t.mem.read (0x1010+6) == 0x22 && t.mem.read (0x1010+7) == 0x22 && t.mem.read (0x1010+8) == 0x00 && t.reg 3 == 0x1000 && t.reg 30 == 0xFFFF8000) = true := by decide +kernel
theorem test_prepare_imm16_shl : (gives (.prepareImm16Shl 0x006 4 0x1234) (at_ 0x2000 (start [(3, 0x1018), (29, 0x22222222), (31, 0x11111111)])) fun t => t.mem.read (0x1010+0) == 0x11 && t.mem.read (0x1010+1) == 0x11 && t.mem.read (0x1010+2) == 0x11 && t.mem.read (0x1010+3) == 0x11 && t.mem.read (0x1010+4) == 0x22 && t.mem.read (0x1010+5) == 0x22 && t.mem.read (0x1010+6) == 0x22 && t.mem.read (0x1010+7) == 0x22 && t.mem.read (0x1010+8) == 0x00 && t.reg 3 == 0x1000 && t.reg 30 == 0x12340000) = true := by decide +kernel
theorem test_prepare_imm32 : (gives (.prepareImm32 0x006 4 0x12345678) (at_ 0x2000 (start [(3, 0x1018), (29, 0x22222222), (31, 0x11111111)])) fun t => t.mem.read (0x1010+0) == 0x11 && t.mem.read (0x1010+1) == 0x11 && t.mem.read (0x1010+2) == 0x11 && t.mem.read (0x1010+3) == 0x11 && t.mem.read (0x1010+4) == 0x22 && t.mem.read (0x1010+5) == 0x22 && t.mem.read (0x1010+6) == 0x22 && t.mem.read (0x1010+7) == 0x22 && t.mem.read (0x1010+8) == 0x00 && t.reg 3 == 0x1000 && t.reg 30 == 0x12345678 && t.pc == 0x2008) = true := by decide +kernel
theorem test_reti : (gives (.reti) ((fun s => { s with main := { s.main with fepsw := 0x0 } }) ((fun s => { s with main := { s.main with fepc := 0x3000 } }) (setPsw 0xA0 (start [])))) fun t => t.pc == 0x3000 && t.psw == 0x0 && t.reports.length == 1) = true := by decide +kernel
theorem test_rie : (gives (.rie) (setPsw 0x20 (at_ 0x1000 (start []))) fun t => t.main.fepc == 0x1000 && t.main.fepsw == 0x20 && t.main.feic == 0x130 && t.main.ecr == 0x1300000 && t.psw == 0xE0 && t.pc == 0x30) = true := by decide +kernel
theorem test_rie_imm : (gives (.rieImm 1 2) (setPsw 0x20 (at_ 0x1000 (start []))) fun t => t.main.fepc == 0x1000 && t.main.fepsw == 0x20 && t.main.feic == 0x130 && t.main.ecr == 0x1300000 && t.psw == 0xE0 && t.pc == 0x30) = true := by decide +kernel
theorem test_stsr : (gives (.stsr 5 10) (setPsw 0x21 (start [])) fun t => t.reg 10 == 0x21) = true := by decide +kernel
theorem test_switch : (gives (.switch 5) (bytes 0x1006 [0x10, 0x00] (at_ 0x1000 (start [(5, 0x2)]))) fun t => t.pc == 0x1022) = true := by decide +kernel
theorem test_syscall : (gives (.syscall 0x25) (bytes 0x4094 [0x00, 0x02, 0x00, 0x00] ((fun s => { s with main := { s.main with sccfg := 0x3F } }) ((fun s => { s with main := { s.main with scbp := 0x4000 } }) (setPsw 0x0 (at_ 0x1000 (start [])))))) fun t => t.main.eipc == 0x1004 && t.main.eipsw == 0x0 && t.main.eiic == 0x8025 && t.main.ecr == 0x8025 && t.psw == 0x60 && t.pc == 0x4200) = true := by decide +kernel
theorem test_trap : (gives (.trap 0x11) (setPsw 0x1 (at_ 0x2000 (start []))) fun t => t.main.eipc == 0x2004 && t.main.eipsw == 0x1 && t.main.eiic == 0x51 && t.main.ecr == 0x51 && t.psw == 0x61 && t.pc == 0x50) = true := by decide +kernel
theorem test_synce : (gives (.synce) (start []) fun t => t.pc == 0x8002) = true := by decide +kernel
theorem test_syncm : (gives (.syncm) (start []) fun t => t.pc == 0x8002) = true := by decide +kernel
theorem test_syncp : (gives (.syncp) (start []) fun t => t.pc == 0x8002) = true := by decide +kernel
theorem test_absf_d : (gives (.absfD 2 3) (start [(4, 0x00000000), (5, 0xC0080000)]) fun t => t.pair 3 == 0x4008000000000000) = true := by decide +kernel
theorem test_absf_s : (gives (.absfS 4 6) (start [(4, 0xBF800000)]) fun t => t.reg 6 == 0x3F800000) = true := by decide +kernel
theorem test_addf_d : (gives (.addfD 1 2 3) (start [(2, 0x00000000), (3, 0x3FF00000), (4, 0x00000000), (5, 0x40000000)]) fun t => t.pair 3 == 0x4008000000000000 && t.fpu.fpsr == 0x20000) = true := by decide +kernel
theorem test_addf_s : (gives (.addfS 1 2 3) (start [(1, 0x3F800000), (2, 0x40000000)]) fun t => t.reg 3 == 0x40400000) = true := by decide +kernel
theorem test_subf_d : (gives (.subfD 1 2 3) (start [(2, 0x00000000), (3, 0x3FF00000), (4, 0x00000000), (5, 0x40080000)]) fun t => t.pair 3 == 0x4000000000000000) = true := by decide +kernel
theorem test_subf_s : (gives (.subfS 1 2 3) (start [(1, 0x3F800000), (2, 0x40400000)]) fun t => t.reg 3 == 0x40000000) = true := by decide +kernel
theorem test_mulf_d : (gives (.mulfD 1 2 3) (start [(2, 0x00000000), (3, 0x40000000), (4, 0x00000000), (5, 0x40080000)]) fun t => t.pair 3 == 0x4018000000000000) = true := by decide +kernel
theorem test_mulf_s : (gives (.mulfS 1 2 3) (start [(1, 0x40000000), (2, 0x40400000)]) fun t => t.reg 3 == 0x40C00000) = true := by decide +kernel
theorem test_divf_d : (gives (.divfD 1 2 3) (start [(2, 0x00000000), (3, 0x40000000), (4, 0x00000000), (5, 0x40180000)]) fun t => t.pair 3 == 0x4008000000000000) = true := by decide +kernel
theorem test_divf_s : (gives (.divfS 1 2 3) (start [(1, 0x40400000), (2, 0x3F800000)]) fun t => t.reg 3 == 0x3EAAAAAB && t.fpu.fpsr == 0x20001) = true := by decide +kernel
theorem test_maxf_d : (gives (.maxfD 1 2 3) (start [(2, 0x00000000), (3, 0x3FF00000), (4, 0x00000000), (5, 0x40000000)]) fun t => t.pair 3 == 0x4000000000000000) = true := by decide +kernel
theorem test_maxf_s : (gives (.maxfS 1 2 3) (start [(1, 0xBF800000), (2, 0xC0000000)]) fun t => t.reg 3 == 0xBF800000) = true := by decide +kernel
theorem test_minf_d : (gives (.minfD 1 2 3) (start [(2, 0x00000000), (3, 0x3FF00000), (4, 0x00000000), (5, 0x40000000)]) fun t => t.pair 3 == 0x3FF0000000000000) = true := by decide +kernel
theorem test_minf_s : (gives (.minfS 1 2 3) (start [(1, 0x7F800000), (2, 0x3F800000)]) fun t => t.reg 3 == 0x3F800000) = true := by decide +kernel
theorem test_negf_d : (gives (.negfD 2 3) (start [(4, 0x00000000), (5, 0x3FF00000)]) fun t => t.pair 3 == 0xBFF0000000000000) = true := by decide +kernel
theorem test_negf_s : (gives (.negfS 4 6) (start [(4, 0x0)]) fun t => t.reg 6 == 0x80000000) = true := by decide +kernel
theorem test_sqrtf_d : (gives (.sqrtfD 2 3) (start [(4, 0x00000000), (5, 0x40100000)]) fun t => t.pair 3 == 0x4000000000000000) = true := by decide +kernel
theorem test_sqrtf_s : (gives (.sqrtfS 4 6) (start [(4, 0x41100000)]) fun t => t.reg 6 == 0x40400000 && t.fpu.fpsr == 0x20000) = true := by decide +kernel
theorem test_recipf_d : (gives (.recipfD 2 3) (start [(4, 0x00000000), (5, 0x40000000)]) fun t => t.pair 3 == 0x3FE0000000000000 && t.fpu.fpsr == 0x20001) = true := by decide +kernel
theorem test_recipf_s : (gives (.recipfS 4 6) (start [(4, 0x40800000)]) fun t => t.reg 6 == 0x3E800000 && t.fpu.fpsr == 0x20001) = true := by decide +kernel
theorem test_rsqrtf_d : (gives (.rsqrtfD 2 3) (start [(4, 0x00000000), (5, 0x40100000)]) fun t => t.pair 3 == 0x3FE0000000000000 && t.fpu.fpsr == 0x20001) = true := by decide +kernel
theorem test_rsqrtf_s : (gives (.rsqrtfS 4 6) (start [(4, 0x40800000)]) fun t => t.reg 6 == 0x3F000000 && t.fpu.fpsr == 0x20001) = true := by decide +kernel
theorem test_maddf_s : (gives (.maddfS 1 2 3 5) (start [(1, 0x40000000), (2, 0x40400000), (3, 0x3F800000)]) fun t => t.reg 5 == 0x40E00000) = true := by decide +kernel
theorem test_msubf_s : (gives (.msubfS 1 2 3 4) (start [(1, 0x40000000), (2, 0x40400000), (3, 0x3F800000)]) fun t => t.reg 4 == 0x40A00000) = true := by decide +kernel
theorem test_nmaddf_s : (gives (.nmaddfS 1 2 3 4) (start [(1, 0x40000000), (2, 0x40400000), (3, 0x3F800000)]) fun t => t.reg 4 == 0xC0E00000) = true := by decide +kernel
theorem test_nmsubf_s : (gives (.nmsubfS 1 2 3 31) (start [(1, 0x40000000), (2, 0x40400000), (3, 0x3F800000)]) fun t => t.reg 31 == 0xC0A00000) = true := by decide +kernel
theorem test_ceilf_dl : (gives (.ceilfDl 2 3) (start [(4, 0x00000000), (5, 0x40040000)]) fun t => t.pair 3 == 0x3 && t.fpu.fpsr == 0x20001) = true := by decide +kernel
theorem test_ceilf_dul : (gives (.ceilfDul 2 3) (start [(4, 0x00000000), (5, 0x40040000)]) fun t => t.pair 3 == 0x3 && t.fpu.fpsr == 0x20001) = true := by decide +kernel
theorem test_ceilf_duw : (gives (.ceilfDuw 2 6) (start [(4, 0xFFE00000), (5, 0x41EFFFFF)]) fun t => t.reg 6 == 0xFFFFFFFF && t.fpu.fpsr == 0x20000) = true := by decide +kernel
theorem test_ceilf_dw : (gives (.ceilfDw 2 6) (start [(4, 0x00000000), (5, 0xC0040000)]) fun t => t.reg 6 == 0xFFFFFFFE && t.fpu.fpsr == 0x20001) = true := by decide +kernel
theorem test_ceilf_sl : (gives (.ceilfSl 4 3) (start [(4, 0x3FC00000)]) fun t => t.pair 3 == 0x2 && t.fpu.fpsr == 0x20001) = true := by decide +kernel
theorem test_ceilf_sul : (gives (.ceilfSul 4 3) (start [(4, 0x5F000000)]) fun t => t.pair 3 == 0x8000000000000000 && t.fpu.fpsr == 0x20000) = true := by decide +kernel
theorem test_ceilf_suw : (gives (.ceilfSuw 4 6) (start [(4, 0x3F000000)]) fun t => t.reg 6 == 0x1 && t.fpu.fpsr == 0x20001) = true := by decide +kernel
theorem test_ceilf_sw : (gives (.ceilfSw 4 6) (start [(4, 0x40200000)]) fun t => t.reg 6 == 0x3 && t.fpu.fpsr == 0x20001) = true := by decide +kernel
theorem test_floorf_dl : (gives (.floorfDl 2 3) (start [(4, 0x00000000), (5, 0xC0040000)]) fun t => t.pair 3 == 0xFFFFFFFFFFFFFFFD && t.fpu.fpsr == 0x20001) = true := by decide +kernel
theorem test_floorf_dul : (gives (.floorfDul 2 3) (start [(4, 0x00000000), (5, 0x40040000)]) fun t => t.pair 3 == 0x2 && t.fpu.fpsr == 0x20001) = true := by decide +kernel
theorem test_floorf_duw : (gives (.floorfDuw 2 6) (start [(4, 0xC0000000), (5, 0x41E65A0B)]) fun t => t.reg 6 == 0xB2D05E00 && t.fpu.fpsr == 0x20000) = true := by decide +kernel
theorem test_floorf_dw : (gives (.floorfDw 2 6) (start [(4, 0xFFE00000), (5, 0x41DFFFFF)]) fun t => t.reg 6 == 0x7FFFFFFF && t.fpu.fpsr == 0x20001) = true := by decide +kernel
theorem test_floorf_sl : (gives (.floorfSl 4 3) (start [(4, 0xBF000000)]) fun t => t.pair 3 == 0xFFFFFFFFFFFFFFFF && t.fpu.fpsr == 0x20001) = true := by decide +kernel
theorem test_floorf_sul : (gives (.floorfSul 4 3) (start [(4, 0x3F400000), (6, 0x00000003), (7, 0x00000000)]) fun t => t.pair 3 == 0x0 && t.fpu.fpsr == 0x20001) = true := by decide +kernel
theorem test_floorf_suw : (gives (.floorfSuw 4 6) (start [(4, 0x4F000000)]) fun t => t.reg 6 == 0x80000000 && t.fpu.fpsr == 0x20000) = true := by decide +kernel
theorem test_floorf_sw : (gives (.floorfSw 4 6) (start [(4, 0x40200000)]) fun t => t.reg 6 == 0x2 && t.fpu.fpsr == 0x20001) = true := by decide +kernel
theorem test_trncf_dl : (gives (.trncfDl 2 3) (start [(4, 0x00000000), (5, 0xC0040000)]) fun t => t.pair 3 == 0xFFFFFFFFFFFFFFFE && t.fpu.fpsr == 0x20001) = true := by decide +kernel
theorem test_trncf_dul : (gives (.trncfDul 2 3) (start [(4, 0x20000000), (5, 0x4202A05F)]) fun t => t.pair 3 == 0x2540BE400 && t.fpu.fpsr == 0x20000) = true := by decide +kernel
theorem test_trncf_duw : (gives (.trncfDuw 2 6) (start [(4, 0x20000000), (5, 0x4202A05F)]) fun t => t.reg 6 == 0xFFFFFFFF && t.fpu.fpsr == 0x20010) = true := by decide +kernel
theorem test_trncf_dw : (gives (.trncfDw 2 6) (start [(4, 0xFFE00000), (5, 0x41DFFFFF)]) fun t => t.reg 6 == 0x7FFFFFFF && t.fpu.fpsr == 0x20001) = true := by decide +kernel
theorem test_trncf_sl : (gives (.trncfSl 4 3) (start [(4, 0x501502F9)]) fun t => t.pair 3 == 0x2540BE400 && t.fpu.fpsr == 0x20000) = true := by decide +kernel
theorem test_trncf_sul : (gives (.trncfSul 4 3) (start [(4, 0x3FC00000)]) fun t => t.pair 3 == 0x1 && t.fpu.fpsr == 0x20001) = true := by decide +kernel
theorem test_trncf_suw : (gives (.trncfSuw 4 6) (start [(4, 0x4F32D05E)]) fun t => t.reg 6 == 0xB2D05E00) = true := by decide +kernel
theorem test_trncf_sw : (gives (.trncfSw 4 6) (start [(4, 0xC0200000)]) fun t => t.reg 6 == 0xFFFFFFFE && t.fpu.fpsr == 0x20001) = true := by decide +kernel
theorem test_cvtf_dl : (gives (.cvtfDl 2 3) (start [(4, 0x00000000), (5, 0x40040000)]) fun t => t.pair 3 == 0x2 && t.fpu.fpsr == 0x20001) = true := by decide +kernel
theorem test_cvtf_ds : (gives (.cvtfDs 2 6) (start [(4, 0x9999999A), (5, 0x3FB99999)]) fun t => t.reg 6 == 0x3DCCCCCD && t.fpu.fpsr == 0x20001) = true := by decide +kernel
theorem test_cvtf_dul : (gives (.cvtfDul 2 3) (start [(4, 0x00000000), (5, 0x43E00000)]) fun t => t.pair 3 == 0x8000000000000000 && t.fpu.fpsr == 0x20000) = true := by decide +kernel
theorem test_cvtf_duw : (gives (.cvtfDuw 2 6) (start [(4, 0xFFE00000), (5, 0x41EFFFFF)]) fun t => t.reg 6 == 0xFFFFFFFF && t.fpu.fpsr == 0x20000) = true := by decide +kernel
theorem test_cvtf_dw : (gives (.cvtfDw 2 6) (start [(4, 0xFFD00000), (5, 0x41DFFFFF)]) fun t => t.reg 6 == 0x7FFFFFFF && t.fpu.fpsr == 0x20001) = true := by decide +kernel
theorem test_cvtf_ld : (gives (.cvtfLd 2 3) (start [(4, 0x00000001), (5, 0x00200000)]) fun t => t.pair 3 == 0x4340000000000000 && t.fpu.fpsr == 0x20001) = true := by decide +kernel
theorem test_cvtf_ls : (gives (.cvtfLs 2 6) (start [(4, 0x00000001), (5, 0x00000100)]) fun t => t.reg 6 == 0x53800000 && t.fpu.fpsr == 0x20001) = true := by decide +kernel
theorem test_cvtf_sd : (gives (.cvtfSd 4 3) (start [(4, 0x3DCCCCCD)]) fun t => t.pair 3 == 0x3FB99999A0000000) = true := by decide +kernel
theorem test_cvtf_sl : (gives (.cvtfSl 4 3) (start [(4, 0x3FC00000)]) fun t => t.pair 3 == 0x2 && t.fpu.fpsr == 0x20001) = true := by decide +kernel
theorem test_cvtf_sul : (gives (.cvtfSul 4 3) (start [(4, 0x3F000000), (6, 0x00000009), (7, 0x00000000)]) fun t => t.pair 3 == 0x0 && t.fpu.fpsr == 0x20001) = true := by decide +kernel
theorem test_cvtf_suw : (gives (.cvtfSuw 4 6) (start [(4, 0x42C80000)]) fun t => t.reg 6 == 0x64 && t.fpu.fpsr == 0x20000) = true := by decide +kernel
theorem test_cvtf_sw : (gives (.cvtfSw 4 6) (start [(4, 0x40200000)]) fun t => t.reg 6 == 0x2 && t.fpu.fpsr == 0x20001) = true := by decide +kernel
theorem test_cvtf_uld : (gives (.cvtfUld 2 3) (start [(4, 0xFFFFFFFF), (5, 0xFFFFFFFF)]) fun t => t.pair 3 == 0x43F0000000000000 && t.fpu.fpsr == 0x20001) = true := by decide +kernel
theorem test_cvtf_uls : (gives (.cvtfUls 2 6) (start [(4, 0xFFFFFFFF), (5, 0xFFFFFFFF)]) fun t => t.reg 6 == 0x5F800000 && t.fpu.fpsr == 0x20001) = true := by decide +kernel
theorem test_cvtf_uwd : (gives (.cvtfUwd 4 3) (start [(4, 0xFFFFFFFF)]) fun t => t.pair 3 == 0x41EFFFFFFFE00000) = true := by decide +kernel
theorem test_cvtf_uws : (gives (.cvtfUws 4 6) (start [(4, 0xFFFFFFFF)]) fun t => t.reg 6 == 0x4F800000 && t.fpu.fpsr == 0x20001) = true := by decide +kernel
theorem test_cvtf_wd : (gives (.cvtfWd 4 3) (start [(4, 0xFFFFFFFF)]) fun t => t.pair 3 == 0xBFF0000000000000) = true := by decide +kernel
theorem test_cvtf_ws : (gives (.cvtfWs 4 6) (start [(4, 0x01000001)]) fun t => t.reg 6 == 0x4B800000 && t.fpu.fpsr == 0x20001) = true := by decide +kernel
theorem test_cmpf_d : (gives (.cmpfD 4 6 7 0) (start [(12, 0x00000000), (13, 0x3FF00000), (14, 0x00000000), (15, 0x40000000)]) fun t => t.fpu.fpsr == 0x1020000) = true := by decide +kernel
theorem test_cmpf_s : (gives (.cmpfS 15 2 1 3) (start [(2, 0x7FC00000), (1, 0x3F800000)]) fun t => t.fpu.fpsr == 0x8020010) = true := by decide +kernel
theorem test_cmovf_d : (gives (.cmovfD 0 1 2 3) (setFpsr 0x1020000 (start [(2, 0x22222222), (3, 0x11111111), (4, 0x44444444), (5, 0x33333333)])) fun t => t.pair 3 == 0x1111111122222222) = true := by decide +kernel
theorem test_cmovf_s : (gives (.cmovfS 2 1 2 3) (start [(1, 0x11111111), (2, 0x7F800001)]) fun t => t.reg 3 == 0x7F800001 && t.fpu.fpsr == 0x20000) = true := by decide +kernel
theorem test_trfsr : (gives (.trfsr 1) (setPsw 0 (setFpsr 0x2020000 (start []))) fun t => t.psw == 1) = true := by decide +kernel

/-! ### Points of the spec beside its examples -/

/-- A store that wraps at the end of the address space (R371). -/
theorem test_st_w_wraps : (gives (.stW 2 0x7FFE 10) (start [(2, 0x11223344), (10, 2)]) fun t =>
    t.mem.read 0xFFFFFFFE == 0x44 && t.mem.read 0xFFFFFFFF == 0x33 && t.mem.read 0 == 0x22 && t.mem.read 1 == 0x11) = true := by
  decide +kernel
/-- A floor with FPSR.RM = 11, whatever the rounding mode (R700): -1.5 gives -2. -/
theorem test_floorf_sw_any_mode : (gives (.floorfSw 4 6) (setFpsr 0xE0000 (start [(4, 0xBFC00000)])) fun t =>
    t.reg 6 == 0xFFFFFFFE) = true := by decide +kernel
/-- A fetch at the end of the instruction address range of a 512 MB product goes on at its other end (R222). -/
theorem test_fetch_limited :
    (bytes 0xF0000000 [0x01, 0x00] (bytes 0x0FFFFFFE [0x21, 0x0E]
      { at_ 0x0FFFFFFE (start []) with cfg := { Config.default with pcLimit512 := true } })).fetch =
      .halves 0x0E21 0x0001 0 0 := by decide +kernel
/-- A product opcode runs the instruction that the product names (R297, R1034). -/
theorem test_product_opcode : (match
    Machine.step (bytes 0x8000 [0x01, 0x00] { start [(1, 5), (2, 7)] with
      cfg := { Config.default with productOpcodes := [⟨0xFFFF, 0x0001, some ⟨0x11C1, []⟩⟩] } }) with
    | .next t => t.reg 2 == 12
    | _ => false) = true := by decide +kernel
/-- An entry that names an instruction of another length than R287 gives the opcode is none: RIE (R287, R297). -/
theorem test_product_opcode_length : (match
    Machine.step (bytes 0x8000 [0x01, 0x00] { start [] with
      cfg := { Config.default with productOpcodes := [⟨0xFFFF, 0x0001, some ⟨0x00031601, []⟩⟩] } }) with
    | .next t => t.main.feic == 0x130 && t.main.fepc == 0x8000
    | _ => false) = true := by decide +kernel
/-- A write to PPV0 leaves bits 2, 4 to 6 and 12 to 19, one to PPV1 those that a product fixes (R148, R6). -/
theorem test_fixed_protection_bits :
    let p := State.reset.ppu
    (p.write Config.default 0x40 0xFFFFFFFF 0xFFFFFFFF).ppv.get 0 = 0xFFF30F8B ∧
    (p.write { Config.default with ppvFixed := #v[0, 1, 0, 0, 0, 0, 0, 0, 0] } 0x50 0xFFFFFFFF 0xFFFFFFFF).ppv.get 1 =
      0xFFFFFFFE := by decide +kernel
/-- An approximate reciprocal is never a denormalized number (R659). -/
theorem test_nudge : single.nudge 0x00800000 0 1 = 0x00800000 ∧ single.nudge 0x3F000000 0 1 = 0x3EFFFFFF := by
  decide +kernel
/-- PREPARE stopped after its last store keeps sp and its stores, and will run again (R599); one store more stops nothing. -/
theorem test_prepare_stopped : let s := start [(3, 0x1000), (30, 0x55)]
    gives (.prepare 1 0) { s with stopAfter := some 1 } (fun t => t.reg 3 == 0x1000 && t.pc == 0x8000 &&
      t.mem.read 0xFFC == 0x55) = true ∧
    gives (.prepare 1 0) { s with stopAfter := some 2 } (fun t => t.reg 3 == 0xFFC && t.pc == 0x8004) = true := by
  decide +kernel
/-- A 48-bit reserved opcode, chosen by its third halfword, takes register and immediate from the opcode: here as MOV imm32
with imm32 = hw3 ‖ 1234H and reg1 from bits 4 to 0 (R287, R297). -/
theorem test_product_opcode_48 :
    let s (b : Byte) := bytes 0x8000 [0x85, 0x07, 0x1F, 0x00, b, 0x80] { start [] with
      cfg := { Config.default with productOpcodes := [⟨0x8000001FFFE0, 0x8000001F0780, some ⟨0x12340620, [⟨0, 0, 5⟩, ⟨32, 32, 16⟩]⟩⟩] } }
    (match Machine.step (s 0x77) with
    | .next t => t.reg 5 == 0x80771234 && t.pc == 0x8006
    | _ => false) = true ∧ instrLength 0x0785 0x001F = 6 ∧
    (match decodeHalves 0x0785 0x001F 0x8077 0 with | .error _ => true | .ok _ => false) = true := by decide +kernel
/-- Bit 16 set in the MAC slot is LD.HU, or reserved with reg2 = 0 (R301; R295 has no row for it: log entry 32). -/
theorem test_mac_slot_bit_16 : decodeHalves 0x17E1 0x1BC5 0 0 = .ok (.ldHu 0x0DE2 1 2) ∧
    decodeHalves 0x07E1 0x1BC5 0 0 = .error .reservedOpcode := by decide +kernel

/-! ### Every statement's hypotheses are met -/

/-- The step answers a next state of which `p` holds. -/
def steps (s : State) (p : State → Bool) : Bool :=
  match Machine.step s with
  | .next t => p t
  | _ => false
theorem gives_next {i : Instr} {s : State} {p : State → Bool} (h : gives i s p = true) :
    ∃ t, exec i s = .next t ∧ p t = true := by
  unfold gives at h
  split at h
  · next t ht => exact ⟨t, ht, h⟩
  · cases h
theorem steps_next {s : State} {p : State → Bool} (h : steps s p = true) :
    ∃ t, Machine.step s = .next t ∧ p t = true := by
  unfold steps at h
  split at h
  · next t ht => exact ⟨t, ht, h⟩
  · cases h

/-- `State.reaches` as a Bool. -/
def lies (s : State) (a : Word) (n : Nat) (write sp : Bool) : Bool :=
  s.permits a n write sp && (s.judge a n write).1 &&
    (List.range n).all fun k => memKind s.cfg (a + BitVec.ofNat 32 k) == .ram
theorem lies_reaches {s : State} {a : Word} {n : Nat} {write sp : Bool} (h : lies s a n write sp = true) :
    s.reaches a n write sp := by
  simp only [lies, Bool.and_eq_true, List.all_eq_true, List.mem_range, beq_iff_eq] at h
  exact ⟨h.1.1, h.1.2, h.2⟩

/-- `ADD r1, r2` at 8000H, with the inputs given. -/
def adding (e : List Ext) : State := { bytes 0x8000 [0xC1, 0x11] (start [(1, 5), (2, 7)]) with inputs := e }
/-- The state halted. -/
def asleep (s : State) : State := { s with halted := true }
/-- The state with MPM written as it stands. -/
def setMpm (w : Word) (s : State) : State := { s with prot := { s.prot with mpm := w } }
/-- The state with BSEL written as it stands. -/
def setBsel (w : Word) (s : State) : State := { s with main := { s.main with bsel := w } }
/-- The state with FPEC written as it stands. -/
def setFpec (w : Word) (s : State) : State := { s with fpu := { s.fpu with fpec := w } }
/-- The state with a PPI exception reported. -/
def setPpec (s : State) : State := { s with ppu := { s.ppu with ppec := 1 } }
/-- The state with counter 5 as given and TSECESUP clear. -/
def setCounter (c : Counter) (s : State) : State := { s with tsu := ⟨0, s.tsu.counters.set 5 c⟩ }
/-- The state with data area 0 as given. -/
def setStack (l u : Word) (s : State) : State := { s with prot := { s.prot with dpa := s.prot.dpa.set 0 ⟨l, u⟩ } }
/-- The state with devices of set 5 protected: bits of PPV, PPT and PPS. -/
def setDevices (v t p : Word) (s : State) : State :=
  { s with ppu := { s.ppu with ppv := s.ppu.ppv.set 5 v, ppt := s.ppu.ppt.set 5 t, pps := s.ppu.pps.set 5 p } }
/-- The machine without an FPU. -/
def noFpu : State := { start [] with cfg := { Config.default with hasFpu := false } }
theorem witness_RoundTrip16 : (Instr.mov 1 2).wellFormed = true ∧ (Instr.mov 1 2).size = 2 := by decide
theorem witness_RoundTrip32 : (Instr.maddfS 31 30 29 17).wellFormed = true ∧ (Instr.maddfS 31 30 29 17).size = 4 := by decide
theorem witness_RoundTripLong : ((Instr.movImm32 1 31).wellFormed = true ∧ 4 < (Instr.movImm32 1 31).size) ∧
    (Instr.prepareImm32 0xFFF 31 0xFFFFFFFF).wellFormed = true ∧ 4 < (Instr.prepareImm32 0xFFF 31 0xFFFFFFFF).size := by
  decide
theorem witness_DecodedIsWellFormed : decodeHalves 0x11C1 0 0 0 = .ok (.add 1 2) := by rfl
theorem witness_StepRunsDecoded : let s := adding []
    s.input.reset = false ∧ s.halted = false ∧ s.dropInput.chosen s.input = none ∧ s.input.mep = none ∧
      s.dropInput.fetch = .halves 0x11C1 0 0 0 ∧ decodeHalves 0x11C1 0 0 0 = .ok (.add 1 2) :=
  ⟨by decide +kernel, by decide +kernel, by decide +kernel, by decide +kernel, by decide +kernel, rfl⟩
theorem witness_StepRunsMemory : let s := adding []
    let i := Instr.add 1 2
    i.wellFormed = true ∧ decode (encodeBytes i) = .ok i ∧ s.input.reset = false ∧ s.halted = false ∧
      s.dropInput.chosen s.input = none ∧ s.input.mep = none ∧
      (∀ k < i.size, memKind s.cfg (limitAddr s.cfg (s.pc + BitVec.ofNat 32 k)) = .ram ∧
        some (s.mem.read (limitAddr s.cfg (s.pc + BitVec.ofNat 32 k)).toNat) = (encodeBytes i)[k]?) ∧
      (∀ k < i.size / 2, s.permitsFetch (limitAddr s.cfg (s.pc + BitVec.ofNat 32 (2 * k))) = true) :=
  ⟨by decide, rfl, by decide +kernel, by decide +kernel, by decide +kernel, by decide +kernel, by decide +kernel,
    by decide +kernel⟩
theorem witness_RequestsWhileNp :
    ((setPsw 0xA0 (start [])).chosen { Ext.quiet with syserr := some 3, int := some 1 } = some (.syserr 3) ∧
      (setPsw 0xA0 (start [])).fNP = true) ∧
    ((setPsw 0x20 (start [])).chosen { Ext.quiet with feint := true, int := some 1 } = some .feint ∧
      (setPsw 0x20 (start [])).fID = true) ∧
    (setPsw 0xA0 (start [])).chosen { Ext.quiet with fenmi := true, feint := true } = some .fenmi := by decide +kernel
theorem witness_InterruptIsTaken : let s (e : Ext) := setPsw 0 (adding [e])
    let q := s Ext.quiet
    let t := setCounter ⟨0x20100, 0, 0, 0, 0⟩ q
    let n := asleep (s { Ext.quiet with int := some 255 })
    ((setPsw 0xA0 (asleep (s { Ext.quiet with fenmi := true, syserr := some 0 }))).input.fenmi = true ∧
      (s { Ext.quiet with syserr := some 3, feint := true }).input.syserr = some 3) ∧
    ((setPpec t).ppu.ppec.getLsbD 0 = true ∧ (setPpec t).fNP = false) ∧
    (t.ppu.ppec.getLsbD 0 = false ∧ t.tsu.request = true ∧ t.input.fenmi = false ∧ t.input.syserr = none) ∧
    ((s { Ext.quiet with feint := true }).input.feint = true ∧ q.tsu.request = false) ∧
    ((setFpec 1 q).fpu.fpec.getLsbD 0 = true ∧ q.halted = false ∧ q.fID = false ∧ q.input.feint = false) ∧
    (n.input.int = some 255 ∧ n.fpu.fpec.getLsbD 0 = false ∧ n.input.reset = false) ∧
    (s { Ext.quiet with mep := some 0 }).input.mep = some 0 ∧
      (s { Ext.quiet with mep := some 0 }).dropInput.fetch ≠ .violation := by decide +kernel
theorem witness_HaltWaits : let s := asleep (adding [{ Ext.quiet with extraClocks := 9 }])
    let r := asleep (adding [{ Ext.quiet with int := some 0 }])
    (s.halted = true ∧ s.input.reset = false ∧ (s.dropInput.requests s.input).any Request.releases = false) ∧
      r.halted = true ∧ r.input.reset = false ∧ (r.dropInput.requests r.input).any Request.releases = true := by
  decide +kernel
theorem witness_ResetInput : (asleep (adding [{ Ext.quiet with reset := true, fenmi := true }])).input.reset = true := by
  decide +kernel
theorem witness_MemoryStaysCanonical :
    (adding []).mem.wf = true ∧ ∃ t, Machine.step (adding []) = .next t ∧ (t.pc == 0x8002) = true :=
  ⟨by decide +kernel, steps_next (by decide +kernel)⟩
theorem witness_PcAndPswStayLegal : (adding []).PcLegal ∧ (adding []).PswLegal ∧
    ∃ t, Machine.step (adding []) = .next t ∧ (t.reg 2 == 12) = true :=
  ⟨by unfold State.PcLegal; decide +kernel, by unfold State.PswLegal; decide +kernel, steps_next (by decide +kernel)⟩
theorem witness_MasterEnableStays : (adding []).LevelLegal ∧ (adding []).CountersLegal ∧
    ∃ t, Machine.step (adding []) = .next t ∧ (t.reg 2 == 12) = true :=
  ⟨by unfold State.LevelLegal; decide +kernel, by unfold State.CountersLegal; decide +kernel,
    steps_next (by decide +kernel)⟩
theorem witness_NpvGuardsProtection :
    (setPsw 0x40000 (start [(1, 7)])).fNPV = true ∧
    (∃ t, exec (.ldsr 1 31) (setPsw 0x40000 (start [(1, 7)])) = .next t ∧ (t.prot.vsecr == 1) = true) ∧
    (∀ r n, Instr.trap 3 ≠ .ldsr r n) ∧ ∃ t, exec (.trap 3) (start []) = .next t ∧ (t.pc == 0x40) = true :=
  ⟨by decide +kernel, gives_next (by decide +kernel), by simp, gives_next (by decide +kernel)⟩
theorem witness_NpvLeavesByExceptionOrReturn : let s := setMpm 3 (setPsw 0x40000 (start []))
    s.LevelLegal ∧ s.fNPV = true ∧ (∃ t, exec .feret s = .next t ∧ (!t.fNPV) = true) ∧
      ∃ t, exec (.trap 3) s = .next t ∧ (!t.fNPV) = true :=
  ⟨by unfold State.LevelLegal; decide +kernel, by decide +kernel, gives_next (by decide +kernel),
    gives_next (by decide +kernel)⟩
theorem witness_BlockedLdsr : (setPsw 0x40000 (start [])).fNPV = true ∧
    ((setPsw 0x40000 (start [])).sysReg 31).isProtected = true := by decide +kernel
theorem witness_StoreThenLoad :
    ((start []).reaches 0xFE0 1 true false ∧ (start []).reaches 0xFE0 1 false false) ∧
    ((start []).reaches 0xFFFFFFF 2 true true ∧ (start []).reaches 0xFFFFFFF 2 false true) ∧
    (start []).reaches 0 4 true false ∧ (start []).reaches 0 4 false false := by
  refine ⟨⟨?_, ?_⟩, ⟨?_, ?_⟩, ?_, ?_⟩ <;> exact lies_reaches (by decide +kernel)
theorem witness_CompareThenCondition : ∃ t, exec (.cmp 1 2) (start [(1, 0x80000000), (2, 1)]) = .next t ∧ t.fOV = true :=
  gives_next (p := State.fOV) (by decide +kernel)
theorem witness_SwapAndSearchInstructions :
    ((∀ k < 32, (!(0xFFFFFFFF#32).toNat.testBit (31 - k)) = false) ∧ ∀ k < 32, (0#32).toNat.testBit (31 - k) = false) ∧
    (((0x80000000#32).toNat.testBit (31 - 0) = true ∧ ∀ j < 0, (0x80000000#32).toNat.testBit (31 - j) = false) ∧
      (0x80000000#32).toNat.testBit 31 = true ∧ ∀ j < 31, (0x80000000#32).toNat.testBit j = false) ∧
    (((!(0xFFFFFFFE#32).toNat.testBit (31 - 31)) = true ∧ ∀ j < 31, (!(0xFFFFFFFE#32).toNat.testBit (31 - j)) = false) ∧
      (!(0xFFFFFFFE#32).toNat.testBit 0) = true ∧ ∀ j < 0, (!(0xFFFFFFFE#32).toNat.testBit j) = false) := by
  decide +kernel
theorem witness_DivideInstructions : (((start [(1, 0xFFFFFFFF), (2, 0x80000000)]).reg 1).toInt ≠ 0 ∧
    (((start [(1, 0xFFFFFFFF), (2, 0x80000000)]).reg 1).setWidth 16).toInt ≠ 0 ∧ some (3 : Reg) ≠ some 2 ∧
    (none : Option Reg) ≠ some 2) ∧ ((start [(1, 0x10000)]).reg 1).toInt ≠ 0 ∧
    (((start [(1, 0x10000)]).reg 1).setWidth 16).toInt = 0 ∧ ((start []).reg 1).toInt = 0 := by decide +kernel
theorem witness_BitInstructions : (start [(1, 0x100)]).reaches 0xFF 1 false false ∧
    (start [(1, 0x100)]).reaches 0xFF 1 true false := by
  refine ⟨?_, ?_⟩ <;> exact lies_reaches (by decide +kernel)
theorem witness_LoadInstructions : (start [(3, 0x1000)]).reaches 0xFFF 1 false true ∧
    (start [(3, 0x1000)]).reaches 0xFFF 2 false true ∧ (start []).reaches 0xFFFE 4 false false := by
  refine ⟨?_, ?_, ?_⟩ <;> exact lies_reaches (by decide +kernel)
theorem witness_StoreInstructions : (start [(3, 0x1000)]).reaches 0xFFF 1 true true ∧
    (start [(3, 0x1000)]).reaches 0xFFF 2 true true ∧ (start []).reaches 0xFFFE 4 true false := by
  refine ⟨?_, ?_, ?_⟩ <;> exact lies_reaches (by decide +kernel)
theorem witness_ForbiddenAccessTraps : let s := setMpm 1 (setPsw 0x20000 (start []))
    let p := setStack 0x1001 0x1006 (setMpm 1 (setPsw 0x20000 (start [(3, 0x1010)])))
    let d := setStack 0x1001 0x1006 (setMpm 1 (setPsw 0x20000 (start [(3, 0x100C)])))
    (s.permits 0x1000 1 false false = false ∧ s.permits 0x1001 2 true true = false ∧ s.permits 0x1000 4 false true = false ∧
      (s.permits 0x1000 4 false false && s.permits 0x1000 4 true false) = false ∧ s.permits 126 2 false false = false ∧
      s.permits 0x8000 2 false false = false) ∧
    (p.stopAfter = none ∧ 4 < (listRegs 0xFFF).length ∧ (∀ j < 4, p.reaches (p.pushAddress j) 4 true true) ∧
      p.permits (p.pushAddress 4) 4 true true = false) ∧
    d.stopAfter = none ∧ 1 < (listRegs 0xFFF).length ∧ (∀ j < 1, d.reaches (d.popAddress 0 j) 4 false true) ∧
      d.permits (d.popAddress 0 1) 4 false true = false := by
  refine ⟨by decide +kernel, ⟨by decide +kernel, by decide, fun j hj => lies_reaches ?_, by decide +kernel⟩,
    by decide +kernel, by decide, fun j hj => lies_reaches ?_, by decide +kernel⟩
  · revert j; decide +kernel
  · revert j; decide +kernel
theorem witness_MdpException : let s := setMpm 1 (setPsw 0x10000 (adding []))
    let i := Instr.add 1 2
    i.wellFormed = true ∧ decode (encodeBytes i) = .ok i ∧ s.input.reset = false ∧ s.halted = false ∧
      s.dropInput.chosen s.input = none ∧
      (∀ k < i.size, memKind s.cfg (limitAddr s.cfg (s.pc + BitVec.ofNat 32 k)) = .ram ∧
        some (s.mem.read (limitAddr s.cfg (s.pc + BitVec.ofNat 32 k)).toNat) = (encodeBytes i)[k]?) ∧
      (∃ k < i.size / 2, s.permitsFetch (limitAddr s.cfg (s.pc + BitVec.ofNat 32 (2 * k))) = false) :=
  ⟨by decide, rfl, by decide +kernel, by decide +kernel, by decide +kernel, by decide +kernel, 0, by decide +kernel⟩
theorem witness_PermitsMeans : let s := setBsel 0x1000 (start [])
    let t : State := { s with prot := { s.prot with mca := 0xFFFFFFF0, mcs := 0x11 } }
    0 < 4 ∧ (setPsw 0x20000 s).fDMP = true ∧ s.fDMP = false ∧ (setPsw 0x10000 s).fIMP = true ∧ t.sysReg 26 = .mcc ∧
      t.fNPV = false ∧ t.prot.mcs ≠ 0 := by decide +kernel
theorem witness_PeripheralWriteIsBlocked : let nt := setPsw 0x80000 (start [])
    nt.Stopped 0xFFFF5020 4 true false ∧ (setPpec nt).Stopped 0x1000 1 true true ∧
    (setDevices 0 0 1 (start [])).Stopped 0xFFFF80FC 4 true false ∧
    ((setDevices 1 1 0 nt).permits 0xFFFF8000 1 true false = true ∧
      (setDevices 1 1 0 nt).Stopped 0xFFFF8000 1 false false) ∧
    (setDevices 1 0 0 nt).reaches 0xFFFF80FC 4 false false ∧ (setDevices 1 0 0 nt).Stopped 0xFFFF80FC 4 true false ∧
    (setDevices 1 0 0 nt).reaches 0xFFFF80FF 1 false true ∧ (setDevices 1 0 0 nt).Stopped 0xFFFF80FF 1 true true := by
  refine ⟨State.stopped_of_area (m := 0) (k := 16) (by decide +kernel) (by decide +kernel) ?_,
    ⟨by decide +kernel, .inl ?_⟩, State.stopped_of_area (m := 5) (k := 0) (by decide +kernel) (by decide +kernel) ?_,
    ⟨by decide +kernel, State.stopped_of_area (m := 5) (k := 0) (by decide +kernel) (by decide +kernel) ?_⟩,
    lies_reaches (by decide +kernel),
    State.stopped_of_area (m := 5) (k := 0) (by decide +kernel) (by decide +kernel) ?_, lies_reaches (by decide +kernel),
    State.stopped_of_area (m := 5) (k := 0) (by decide +kernel) (by decide +kernel) ?_⟩ <;>
  first | (unfold State.Forbids; decide +kernel) | (unfold State.Invalidates; decide +kernel)
theorem witness_BlockedReads : let nt := setPsw 0x80000 (start [(3, 0x1003)])
    (setDevices 0 0 1 nt).Stopped 0xFFFF8000 1 false true ∧ (setDevices 0 0 1 (start [])).Stopped 0xFFFF80FE 2 false false ∧
    (setPpec nt).Invalidates ∧ (setPpec nt).stopAfter = none ∧
      (∀ k < (listRegs 0xFFF).length, (setPpec nt).permits ((setPpec nt).pushAddress k) 4 true true = true) ∧
      ∀ k < (listRegs 0xFFF).length, (setPpec nt).permits ((setPpec nt).popAddress 31 k) 4 false true = true := by
  refine ⟨State.stopped_of_area (m := 5) (k := 0) (by decide +kernel) (by decide +kernel) ?_,
    State.stopped_of_area (m := 5) (k := 0) (by decide +kernel) (by decide +kernel) ?_, ?_, by decide +kernel,
    by decide +kernel, by decide +kernel⟩ <;>
  first | (unfold State.Forbids; decide +kernel) | (unfold State.Invalidates; decide +kernel)
theorem witness_SoftwareExceptions : (∀ k < 4, memKind (start []).cfg ((start []).main.scbp + BitVec.ofNat 32 0 +
    BitVec.ofNat 32 k) = .ram) ∧ ∀ k < 4, memKind (start []).cfg ((start []).main.scbp + BitVec.ofNat 32 (4 * 255) +
    BitVec.ofNat 32 k) = .ram := by decide +kernel
theorem witness_BranchInstructions : (start []).reaches ((start []).main.ctbp + 126) 2 false false ∧
    (start [(1, 0xFFFFFFFF)]).reaches (0x8002 + BitVec.ofNat 32 (2 * 0xFFFFFFFF)) 2 false false := by
  refine ⟨?_, ?_⟩ <;> exact lies_reaches (by decide +kernel)
theorem witness_CompareAndExchange : (start []).reaches 0x1000 4 false true ∧ (start []).reaches 0x1000 4 true true := by
  refine ⟨?_, ?_⟩ <;> exact lies_reaches (by decide +kernel)
theorem witness_PrepareInstruction : (start [(3, 0x1003)]).stopAfter = none ∧
    (∀ k < (listRegs 0xFFF).length, (start [(3, 0x1003)]).reaches ((start [(3, 0x1003)]).pushAddress k) 4 true true) ∧
    ∀ k < (listRegs 0xFFF).length, (start [(3, 0x1003)]).reaches ((start [(3, 0x1003)]).popAddress 31 k) 4 false true := by
  refine ⟨by decide +kernel, fun k hk => lies_reaches ?_, fun k hk => lies_reaches ?_⟩
  · revert k; decide +kernel
  · revert k; decide +kernel
theorem witness_LdsrThenRead : (start []).cfg.hasFpu = true ∧ (start []).cfg.pcLimit512 = false ∧
    (start []).fNPV = false ∧ (start []).main.bsel = 0 ∧ (setBsel 0x2000 (start [])).main.bsel = 0x2000 ∧
    (start []).sysReg 29 ≠ .reserved ∧ (setBsel 0x2000 (start [])).sysReg 6 ≠ .reserved := by decide +kernel
theorem witness_SpecialRegisterWrites :
    ((setBsel 0xFFFF (start [])).main.bsel = 0xFFFF ∧ (setPsw 0x40000 (start [])).fNPV = true) ∧
    ((start []).fNPV = false ∧ (setBsel 0x10 (start [])).main.bsel = 0x10 ∧ (start []).main.bsel = 0 ∧
      (setBsel 0x11 (start [])).main.bsel = 0x11) ∧
    ((setBsel 0x1001 (start [])).main.bsel = 0x1001 ∧ (setBsel 0x1010 (start [])).main.bsel = 0x1010) ∧
    ((14 : BitVec 5).toNat = 6 + 2 * (4 : Fin 5).val ∧ (16 : BitVec 5).toNat = 16 + 2 * (0 : Fin 6).val ∧
      (26 : BitVec 5).toNat = 16 + 2 * (5 : Fin 6).val) ∧
    (setBsel 0x2000 (start [])).main.bsel = 0x2000 ∧ (start []).cfg.hasFpu = true := by decide +kernel
theorem witness_DiStartsLockCounters :
    let s := setMpm 1 (setPsw 0 (start []))
    s.mpe = true ∧ s.fID = false ∧ (setPsw 0x20 s).fID = true ∧
      (setCounter ⟨0x100000, 1, 2, 3, 0⟩ s).tsu.counters[5].ctm = 0b01 ∧
      (setCounter ⟨0x200003, 1, 2, 3, 0⟩ s).tsu.counters[5].ctm = 0b10 ∧ s.tsu.counters[5].ctm = 0b00 := by
  decide +kernel
theorem witness_CounterCounts :
    let s (c : Counter) := setPsw 0 (asleep (setMpm 1 (setCounter c (adding []))))
    let up := s ⟨1, 0xFFFFFFF, 1, 0, 0⟩
    let hit := s ⟨0x1050101, 0, 0xFFFFFFF, 7, 3⟩
    let t := start [(1, 0xFFFF5070), (2, 0xF)]
    (up.halted = true ∧ up.input.reset = false ∧ (up.dropInput.requests up.input).any Request.releases = false) ∧
    ((s ⟨0, 0, 0, 0, 0⟩).tsu.counters.get 5).act = false ∧
    ((up.tsu.counters.get 5).act = true ∧ (up.tsu.counters.get 5).res.toNat ≤ 5 ∧
      ∀ j < 1, (up.tsu.counters.get 5).cnt + BitVec.ofNat 28 (j + 1) ≠ (up.tsu.counters.get 5).cmp) ∧
    ((hit.tsu.counters.get 5).act = true ∧
      ((hit.tsu.counters.get 5).phase % 4 ^ (hit.tsu.counters.get 5).res.toNat + 1) / 4 ^ (hit.tsu.counters.get 5).res.toNat = 1 ∧
      (hit.tsu.counters.get 5).cnt - 1 = (hit.tsu.counters.get 5).cmp) ∧
    t.reg 1 + BitVec.ofInt 32 (2 * (0 : BitVec 15).toInt) = 0xFFFF5020 + BitVec.ofNat 32 (16 * (5 : Fin 6).val) ∧
    t.permits 0xFFFF5070 4 true false = true ∧ ¬t.Stopped 0xFFFF5070 4 true false := by
  refine ⟨by decide +kernel, by decide +kernel, by decide +kernel, by decide +kernel, by decide +kernel,
    by decide +kernel, fun h => ?_⟩
  have := State.judge_of_stopped h
  exact absurd (congrArg Prod.fst this) (by decide +kernel)
theorem witness_FpArithmetic : let s := start [(1, 0x3F800000), (2, 0x40000000), (3, 0x3F800000), (5, 0x3FF00000)]
    let f := s.fpEnv
    s.fpReady ∧
      s.fpEnabled (single.deliver f [s.fpS 2, s.fpS 1] ((s.fpS 2).val.add (s.fpS 1).val)).det = false ∧
      s.fpEnabled (single.extreme f true (s.fpS 2) (s.fpS 1)).det = false ∧
      s.fpEnabled (double.deliver f [s.fpD 2, s.fpD 2] ((s.fpD 2).val.div double (s.fpD 2).val)).det = false ∧
      s.fpEnabled (single.deliver f [s.fpS 2, s.fpS 1, s.fpS 3]
        (Fp.fused single f ((s.fpS 2).val.mul (s.fpS 1).val) (s.fpS 3).val)).det = false := by
  unfold State.fpReady State.fpDirected; decide +kernel
theorem witness_FpOneOperand : let s := start [(2, 0x40000000), (5, 0x40000000)]
    let f := s.fpEnv
    s.fpReady ∧ s.fpEnabled (single.deliver f [s.fpS 2] ((s.fpS 2).val.sqrt single)).det = false ∧
      s.fpEnabled (single.approximate f [s.fpS 2] ((s.fpS 2).val.recip single)).det = false ∧
      s.fpEnabled (single.deliver f [s.fpD 2] ((s.fpD 2).val, 0)).det = false := by
  unfold State.fpReady State.fpDirected; decide +kernel
theorem witness_FpToIntegerInstructions : let s := start [(2, 0x40200000), (5, 0x40040000)]
    (s.fpReady ∧ (setFpsr 0xE0000 s).fpDirected) ∧ s.fpEnabled (toInteger .nearest fmtW (s.fpS 2)).det = false ∧
      s.fpEnabled (toInteger .up fmtUL (s.fpD 2)).det = false := by
  unfold State.fpReady State.fpDirected; decide +kernel
theorem witness_FpFromIntegerInstructions : let s := start [(2, 0x80000001)]
    s.fpReady ∧ s.fpEnabled (single.ofInteger s.fpEnv (s.reg 2).toInt).det = false ∧
      s.fpEnabled (double.ofInteger s.fpEnv ((s.pair 1).toNat : Int)).det = false := by
  unfold State.fpReady State.fpDirected; decide +kernel
theorem witness_FpCompareAndMove : let s := start [(2, 0x7FC00000)]
    s.fpReady ∧ s.fpEnabled (compareFp s.fpEnv 15 (s.fpS 2) (s.fpS 1)).det = false ∧
      s.fpEnabled (compareFp s.fpEnv 2 (s.fpD 2) (s.fpD 1)).det = false ∧ s.cfg.hasFpu = true ∧ s.fpInvalid = false ∧
      (setFpec 3 s).fpInvalid = true := by
  unfold State.fpReady State.fpDirected; decide +kernel
theorem witness_FpEnabledException : let s := setFpsr 0x203E0 (start [(1, 0x3F800000), (2, 0xBFC00000), (3, 0x3F800001),
      (4, 0x00000001), (5, 0x3FF00000), (6, 0x30000001), (9, 0), (11, 0x7FF40000)])
    let f := s.fpEnv
    (s.fpReady ∧ (setFpsr 0x3203E0 s).fpReady) ∧
      s.fpEnabled (single.deliver f [s.fpS 6, s.fpS 1] ((s.fpS 6).val.add (s.fpS 1).val)).det = true ∧
      s.fpEnabled (double.deliver f [s.fpD 2, s.fpD 4] ((s.fpD 2).val.div double (s.fpD 4).val)).det = true ∧
      s.fpEnabled (single.deliver f [s.fpS 2] ((s.fpS 2).val.sqrt single)).det = true ∧
      s.fpEnabled (single.deliver f [s.fpD 2] ((s.fpD 2).val, 0)).det = true ∧
      s.fpEnabled (toInteger .zero fmtW (s.fpS 2)).det = true ∧
      s.fpEnabled (single.deliver f [s.fpS 3, s.fpS 3, s.fpS 1]
        (Fp.fused single f ((s.fpS 3).val.mul (s.fpS 3).val) (s.fpS 1).val)).det = true ∧
      s.fpEnabled (compareFp f 8 (s.fpD 5) (s.fpD 2)).det = true ∧
      (s.fpPrecise .single = false ∧ s.fpPrecise .double = false) ∧
      (setFpsr 0x3203E0 s).fpPrecise .single = true ∧ (setFpsr 0x3203E0 s).fpPrecise .double = true := by
  unfold State.fpReady State.fpDirected; decide +kernel
theorem witness_FpInvalidationAndUnusable : (setFpec 3 (start [])).cfg.hasFpu = true ∧
    (setFpec 3 (start [])).fpInvalid = true ∧ noFpu.cfg.hasFpu = false := by decide +kernel
theorem witness_FpExactOperations : (Fp.zero true).Number ∧ (Fp.fin true 3 (-7)).Number :=
  ⟨trivial, by unfold Fp.Number; decide⟩
theorem witness_FpSpecialOperands : let env := (start []).fpEnv
    (single.Fits 0x7F800001 ∧ double.Fits 0xFFFFFFFFFFFFFFFF) ∧
    (single.kind 0x7F800001 = .nan false ∧ single.kind 0x7FC00000 = .nan true ∧ single.kind 0x80000001 = .denormal true ∧
      double.kind 0xFFF0000000000000 = .inf true ∧ (single.kind 0x80000001).isNan = false ∧ (Fp.zero true).isNan = false) ∧
    0xBF800000 = (0x3F800000#64) ^^^ single.signBit ∧ env.cfg.fmaProductOverflowCheck = true ∧
    (single.round env ((single.unpack 0x7F7FFFFF).val.mul (single.unpack 0x7F7FFFFF).val).1).2 &&& Det.o ≠ 0 ∧
    (single.round env ((single.unpack 0x3F800000).val.mul (single.unpack 0x7F7FFFFF).val).1).2 &&& Det.o = 0 := by
  refine ⟨⟨by unfold Fmt.Fits; decide +kernel, by unfold Fmt.Fits; decide +kernel⟩, by decide +kernel, by decide +kernel,
    by decide +kernel, by decide +kernel, by decide +kernel⟩
theorem witness_FpSpecialOneOperand : let env := (start []).fpEnv
    let exact (w : DWord) := (single.deliver env [single.unpack w] ((single.unpack w).val.recip single)).det
    (single.kind 0x7FC00000 = .nan true ∧ single.kind 0xFF800001 = .nan false ∧ single.kind 0x00000001 = .denormal false ∧
      single.kind 0x80000001 = .denormal true ∧ single.kind 0 = .zero false ∧ single.kind 0x80000000 = .zero true) ∧
    ((single.unpack 0xBF800000).val.Below (single.unpack 0x7F800000).val ∧
      ¬(single.unpack 0x7F800000).val.Below (single.unpack 0x7F800000).val) ∧
    exact 0x3F800000 &&& (Det.o ||| Det.u) = 0 ∧ exact 0x7F7FFFFF &&& Det.u ≠ 0 ∧ env.xe.getLsbD 1 = false := by
  have h : single.unpack 0x7F800000 = ⟨.inf false, false⟩ := by decide +kernel
  have k : single.unpack 0xBF800000 = ⟨.fin true (2 ^ 23) (-23), false⟩ := by decide +kernel
  refine ⟨by decide +kernel, ⟨?_, ?_⟩, by decide +kernel, by decide +kernel, by decide +kernel⟩
  · rw [h, k]; exact rfl
  · rw [h]; exact fun p => Bool.noConfusion p.1
theorem witness_FpQuotientsAndRoots : let env := (start []).fpEnv
    let x := Fp.fin false (2 ^ 23) (-23)
    let y := Fp.fin true (2 ^ 24 - 1) 104
    (2 ^ single.frac ≤ 2 ^ 23 ∧ 2 ^ 24 - 1 < 2 ^ (single.frac + 1) ∧ (Fp.zero false).Number) ∧
    ((single.round env (x.div single x).1).2 = 0 ∧ (single.round env (x.recip single).1).2 = 0 ∧
      (single.round env (x.sqrt single).1).2 = 0 ∧ (single.round env (x.rsqrt single).1).2 = 0 ∧
      (single.round env (x.mul x).1).2 &&& Det.o = 0) ∧
    env.cfg.fmaProductOverflowCheck = true ∧ (single.round env (y.mul y).1).2 &&& Det.o ≠ 0 := by
  refine ⟨⟨by decide, by decide, trivial⟩, by decide +kernel, by decide +kernel, by decide +kernel⟩
theorem witness_FpRounding : |(Fp.fin true 1 (-127)).toRat| < (2 : Rat) ^ single.emin ∧
    (2 ^ (single.frac + 2) - 1 : Rat) * (2 : Rat) ^ ((single.bias : Int) - single.frac - 1) ≤
      |(Fp.fin false (2 ^ 25 - 1) 103).toRat| ∧
    ¬|(Fp.fin true (2 ^ 24 + 1) 0).toRat| < (2 : Rat) ^ single.emin ∧
    ¬(2 ^ (single.frac + 2) - 1 : Rat) * (2 : Rat) ^ ((single.bias : Int) - single.frac - 1) ≤
      |(Fp.fin true (2 ^ 24 + 1) 0).toRat| := by
  norm_num [Fp.toRat, single, Fmt.emin, Fmt.bias, zpow_neg]
theorem witness_FpIntegerRounding : (Fp.fin false 5 (-1)).toRat = 5 / 2 ∧ (roundInt .nearest false 5 (-1)).1 = 2 := by
  refine ⟨?_, by decide +kernel⟩
  norm_num [Fp.toRat]

end Sys2Proof.Tests
end

section
/-! PROOFS. What every instruction and every step keeps: a predicate that the shared operations keep holds of whatever
state an instruction, or a step, gives. Each invariant of the machine is a proof of `StepKept`. -/
namespace Sys2Proof.Machine

/-- If the outcome is a next state, `P` holds of it. -/
def Ends (P : State → Prop) : Result → Prop
  | .next t => P t
  | .fault _ => True
  | .refused _ => True

/-- `P` holds of the state that an access ends in, with a value or at the handler of an exception. -/
def Acc.Keeps {α : Type} (P : State → Prop) : Acc α → Prop
  | .ok _ t => P t
  | .trap t => P t
  | .refused _ => True

/-- A predicate that the operations of instructions keep, those of LDSR and of the returns apart. -/
structure Kept (P : State → Prop) : Prop where
  regs : ∀ {s : State} (g : Vector Word 32), P s → P { s with regs := g }
  setPc : ∀ {s : State} (a : Word), P s → P (s.setPc a)
  flags : ∀ {s : State} {w : Word}, w &&& ~~~flagsAll = s.psw &&& ~~~flagsAll → P s → P { s with psw := w }
  free : ∀ {s : State} (n : Nat), P s → P { s with free := n }
  fpu : ∀ {s : State} (f : FpuRegs), P s → P { s with fpu := f }
  ppu : ∀ {s : State} (p : PpuRegs), P s → P { s with ppu := p }
  halted : ∀ {s : State} (b : Bool), P s → P { s with halted := b }
  writeByte : ∀ {s : State} (a : Word) (b : Byte), P s → (s.writeByte a b).Keeps P
  /-- The violation registers of memory protection take a cause and an address. -/
  violation : ∀ {s : State} (c a : Word), P s →
    P { s with prot := { s.prot with vmecr := c, vmtid := s.prot.tid, vmadr := a } }
  enter : ∀ {s : State} (e : Exc) (ret : Word), P s → P (s.enter e ret)
  /-- The link of CALLT. -/
  link : ∀ {s : State} (a : Word), P s → P (s.setMain { s.main with ctpc := a, ctpsw := s.psw })
  putId : ∀ {s : State} (b : Bool), P s → P (s.putPsw (putBit s.psw 5 b))

/-! ### Outcomes -/

variable {P : State → Prop} {s : State}

theorem Ends.of_eq {r : Result} {t : State} (h : Ends P r) (ht : r = .next t) : P t := by
  subst ht; exact h

theorem Acc.Keeps.bind {α β : Type} {x : Acc α} {f : α → State → Acc β} (hx : x.Keeps P)
    (hf : ∀ a t, P t → (f a t).Keeps P) : (x.bind f).Keeps P := by
  cases x with
  | ok a t => exact hf a t hx
  | trap t => exact hx
  | refused r => trivial

theorem Acc.Keeps.finish {α : Type} {x : Acc α} {f : α → State → State} (hx : x.Keeps P)
    (hf : ∀ a t, P t → P (f a t)) : Ends P (x.finish f) := by
  cases x with
  | ok a t => exact hf a t hx
  | trap t => exact hx
  | refused r => trivial

namespace Kept

variable (k : Kept P)
include k

/-! ### Registers, flags and exceptions -/

theorem setReg (h : P s) (r : Reg) (v : Word) : P (s.setReg r v) := by
  unfold State.setReg
  split
  · exact h
  · exact k.regs _ h

theorem setPair (h : P s) (p : Pair) (v : DWord) : P (s.setPair p v) := k.setReg (k.setReg h _ _) _ _

theorem advance (h : P s) (n : Nat) : P (s.advance n) := k.setPc _ h

theorem putFlags (h : P s) (c o n z : Bool) : P (s.putFlags c o n z) :=
  k.flags (s.psw_putFlags c o n z (~~~flagsAll) rfl) h

theorem putOSZ (h : P s) (o n z : Bool) : P (s.putOSZ o n z) :=
  k.flags (s.psw_putOSZ o n z (~~~flagsAll) rfl) h

theorem putZ (h : P s) (z : Bool) : P (s.putZ z) := k.flags (and_putBit _ _ 0 z rfl) h

theorem putSat (h : P s) (f : Flagged) : P (s.putSat f) := by
  have hf := k.putFlags h f.cy f.ov (saturate f).msb (saturate f == 0)
  unfold State.putSat
  dsimp only
  split
  · exact k.flags (and_putBit _ _ 4 true rfl) hf
  · exact hf

theorem takeException (h : P s) (e : Exc) (ret : Word) : P (s.takeException e ret) := k.setPc _ (k.enter e ret h)

theorem raiseMdp (h : P s) (a c : Word) : P (s.raiseMdp a c) := k.takeException (k.violation c a h) _ _

theorem raiseMip (h : P s) : P s.raiseMip := k.takeException (k.violation 2 s.pc h) _ _

/-! ### Shapes of instructions -/

theorem move (h : P s) (dst : Reg) (v : Word) (len : Nat) : P (s.move dst v len) :=
  k.advance (k.setReg h dst v) len

theorem arith (h : P s) (dst : Reg) (f : Flagged) (len : Nat) : P (s.arith dst f len) :=
  k.move (k.putFlags h _ _ _ _) dst f.value len

theorem compare (h : P s) (f : Flagged) (len : Nat) : P (s.compare f len) := k.advance (k.putFlags h _ _ _ _) len

theorem saturated (h : P s) (dst : Reg) (f : Flagged) (len : Nat) : P (s.saturated dst f len) :=
  k.move (k.putSat h f) dst (saturate f) len

theorem logical (h : P s) (dst : Reg) (r : Word) (len : Nat) : P (s.logical dst r len) :=
  k.move (k.putOSZ h _ _ _) dst r len

theorem product (h : P s) (reg2 reg3 : Reg) (p : DWord) : P (s.product reg2 reg3 p) :=
  k.move (k.setReg h reg2 _) reg3 _ 4

theorem shifted (h : P s) (dst : Reg) (c : Carried) (len : Nat) : P (s.shifted dst c len) :=
  k.move (k.putFlags h _ _ _ _) dst c.value len

theorem swapped (h : P s) (dst : Reg) (r : Word) (cy z : Bool) : P (s.swapped dst r cy z) :=
  k.move (k.putFlags h _ _ _ _) dst r 4

theorem searched (h : P s) (dst : Reg) (n : Option Nat) : P (s.searched dst n) := by
  cases n with
  | none => exact k.move (k.putFlags h _ _ _ _) dst _ 4
  | some n => exact k.move (k.putFlags h _ _ _ _) dst _ 4

theorem putQuotient (h : P s) (reg2 : Reg) (reg3 : Option Reg) (q m : Word) : P (s.putQuotient reg2 reg3 q m) := by
  cases reg3 with
  | none => exact k.setReg h reg2 q
  | some r => exact k.setReg (k.setReg h reg2 q) r m

theorem divide (h : P s) (signed : Bool) (n d : Int) (reg2 : Reg) (reg3 : Option Reg) (len : Nat) :
    P (s.divide signed n d reg2 reg3 len) := by
  unfold State.divide
  dsimp only
  split
  · exact k.advance (k.putQuotient (k.free _ (k.putOSZ h _ _ _)) _ _ _ _) _
  · split
    · exact k.advance (k.putQuotient (k.free _ (k.putOSZ h _ _ _)) _ _ _ _) _
    · exact k.advance (k.putQuotient (k.putOSZ h _ _ _) _ _ _ _) _

/-! ### Accesses -/

theorem loadAs (h : P s) (a : Word) (n : Nat) (sp : Bool) (ext : Word → Word) : (s.loadAs a n sp ext).Keeps P := by
  cases hx : s.loadAs a n sp ext with
  | ok v t =>
    obtain ⟨p, j, rfl⟩ := State.loadAs_ok hx
    exact k.free j (k.ppu p h)
  | trap t =>
    obtain ⟨-, rfl⟩ := State.loadAs_trap hx
    exact k.raiseMdp h _ _
  | refused r => trivial

theorem readBytes (h : P s) (a : Word) (n : Nat) : (s.readBytes a n).Keeps P := by
  cases hx : s.readBytes a n with
  | ok v t =>
    obtain ⟨j, rfl⟩ := State.readBytes_ok hx
    exact k.free j h
  | trap t => exact absurd hx (State.readBytes_not_trap _ _ _ _)
  | refused r => trivial

theorem writeBytes (h : P s) (a v : Word) (n : Nat) : (s.writeBytes a v n).Keeps P := by
  induction n generalizing s a v with
  | zero => exact h
  | succ n ih => exact (k.writeByte a _ h).bind fun _ _ ht => ih ht _ _

theorem performRead (h : P s) (a : Word) (n : Nat) : (s.performRead a n).Keeps P := by
  cases hx : s.performRead a n with
  | ok v t =>
    obtain ⟨p, j, rfl⟩ := State.performRead_ok hx
    exact k.free j (k.ppu p h)
  | trap t => exact absurd hx (State.performRead_not_trap _ _ _ _)
  | refused r => trivial

theorem performWrite (h : P s) (a v : Word) (n : Nat) : (s.performWrite a v n).Keeps P := by
  unfold State.performWrite
  obtain ⟨⟨p, hp⟩, -⟩ := s.judge_state a n true
  rcases hj : s.judge a n true with ⟨g, u⟩
  rw [hj] at hp
  subst hp
  cases g with
  | true => exact k.writeBytes (k.ppu p h) a v n
  | false => exact k.ppu p h

theorem store (h : P s) (a v : Word) (n : Nat) (sp : Bool) : (s.store a v n sp).Keeps P := by
  unfold State.store
  split
  · exact k.performWrite h a v n
  · exact k.raiseMdp h _ _

theorem modify (h : P s) (a : Word) (n : Nat) (sp : Bool) (f : Word → Word) : (s.modify a n sp f).Keeps P := by
  unfold State.modify
  split
  · refine (k.performRead h a n).bind fun v t ht => ?_
    split
    · exact (k.performWrite ht a _ n).bind fun _ _ hu => hu
    · exact ht
  · exact k.raiseMdp h _ _

theorem pushRegs (h : P s) (a : Word) (rs : List Reg) : (s.pushRegs a rs).Keeps P := by
  induction rs generalizing s a with
  | nil => exact h
  | cons r rs ih => exact (k.store h _ _ _ _).bind fun _ _ ht => ih ht _

theorem popRegs (h : P s) (a : Word) (rs : List Reg) : (s.popRegs a rs).Keeps P := by
  induction rs generalizing s a with
  | nil => exact h
  | cons r rs ih => exact (k.loadAs h _ _ _ id).bind fun v _ ht => ih (k.setReg ht r v) _

theorem loadInto (h : P s) (a : Word) (n : Nat) (sp : Bool) (ext : Word → Word) (dst : Reg) (len : Nat) :
    Ends P (s.loadInto a n sp ext dst len) :=
  (k.loadAs h a n sp ext).finish fun v _ ht => k.move ht dst v len

theorem storeFrom (h : P s) (a v : Word) (n : Nat) (sp : Bool) (len : Nat) : Ends P (s.storeFrom a v n sp len) :=
  (k.store h a v n sp).finish fun _ _ ht => k.advance ht len

theorem bitModify (h : P s) (a : Word) (sp : Bool) (n : Nat) (f : Word → Word) : Ends P (s.bitModify a sp n f) := by
  refine (k.modify h a 1 sp f).finish fun v t ht => k.advance ?_ 4
  split
  · exact k.putZ ht _
  · exact ht

theorem bitTest (h : P s) (a : Word) (sp : Bool) (n : Nat) : Ends P (s.bitTest a sp n) :=
  (k.loadAs h a 1 sp id).finish fun _ _ ht => k.advance (k.putZ ht _) 4

theorem bcond (h : P s) (cc : BitVec 4) (disp : BitVec 8) : Ends P (execBcond cc disp s) := by
  unfold execBcond
  split
  · exact k.setPc _ h
  · exact k.advance h 2

theorem callt (h : P s) (imm6 : BitVec 6) : Ends P (execCallt imm6 s) := by
  have hl := k.loadAs h (s.main.ctbp + zext (even imm6)) 2 false id
  unfold execCallt State.load
  cases hx : s.loadAs (s.main.ctbp + zext (even imm6)) 2 false id with
  | ok v t =>
    obtain ⟨p, j, rfl⟩ := State.loadAs_ok hx
    exact k.setPc _ (k.link _ (k.free j (k.ppu p h)))
  | trap t => rw [hx] at hl; exact hl
  | refused r => trivial

theorem prepared (h : P s) (list : BitVec 12) (imm5 : BitVec 5) {f : State → State} (hf : ∀ t, P t → P (f t)) :
    Ends P (s.prepared list imm5 f) := by
  unfold State.prepared
  dsimp only
  split
  · exact (k.pushRegs h _ _).finish fun _ _ ht => ht
  · exact (k.pushRegs h _ _).finish fun _ _ ht => hf _ (k.setReg ht _ _)

theorem disposed (h : P s) (list : BitVec 12) (imm5 : BitVec 5) {f : State → State} (hf : ∀ t, P t → P (f t)) :
    Ends P (s.disposed list imm5 f) := by
  unfold State.disposed
  dsimp only
  split
  · exact (k.popRegs h _ _).finish fun _ _ ht => ht
  · exact (k.popRegs h _ _).finish fun _ _ ht => hf _ (k.setReg ht _ _)

/-! ### Floating point -/

theorem withFpu {t : State} (h : P s) (c : FpClass) (ht : P t) : Ends P (s.withFpu c t) := by
  unfold State.withFpu
  split
  · exact ht
  · exact k.takeException h _ _

theorem fpException (h : P s) (c : FpClass) (det : Det) : P (s.fpException c det) := by
  unfold State.fpException
  dsimp only
  split
  · exact k.takeException (k.fpu _ h) _ _
  · exact k.advance (k.fpu _ (k.fpu _ h)) 4

theorem fpComplete (h : P s) (c : FpClass) (det : Det) {write : State → State} (hw : ∀ t, P t → P (write t)) :
    P (s.fpComplete c det write) := by
  unfold State.fpComplete
  split
  · exact k.fpException h c det
  · exact k.advance (hw _ (k.fpu _ h)) 4

theorem fpRun (h : P s) (c : FpClass) (listed : Det) (f : FpEnv → FpOut) {write : DWord → State → State}
    (hw : ∀ v t, P t → P (write v t)) : Ends P (s.fpRun c listed f write) := by
  refine k.withFpu h c ?_
  split
  · exact k.advance h 4
  · exact k.fpComplete (k.free _ h) c _ (hw _)

/-- A floating-point instruction with its result in a register. -/
theorem fpToReg (h : P s) (c : FpClass) (listed : Det) (f : FpEnv → FpOut) (r : Reg) :
    Ends P (s.fpRun c listed f (toReg r)) :=
  k.fpRun h c listed f fun _ _ ht => k.setReg ht r _

/-- A floating-point instruction with its result in a register pair. -/
theorem fpToPair (h : P s) (c : FpClass) (listed : Det) (f : FpEnv → FpOut) (p : Pair) :
    Ends P (s.fpRun c listed f (toPair p)) :=
  k.fpRun h c listed f fun _ _ ht => k.setPair ht p _

/-- A floating-point instruction with its result in a condition bit. -/
theorem fpToCc (h : P s) (c : FpClass) (listed : Det) (f : FpEnv → FpOut) (n : BitVec 3) :
    Ends P (s.fpRun c listed f (toCc n)) :=
  k.fpRun h c listed f fun _ _ ht => k.fpu _ ht

end Kept

/-! ### Instructions -/

/-- LDSR and the returns: the instructions whose purpose is to write system registers. -/
def setsSystem : Instr → Bool
  | .ldsr _ _ | .ctret | .eiret | .feret | .reti => true
  | _ => false

/-- Every instruction keeps what the shared operations keep; LDSR and the returns are left to the caller. The cases
go by the operation that an instruction ends in; a floating-point one first has its dispatch unfolded, so that Lean need not
look through the whole operation for it. -/
theorem Kept.exec (k : Kept P) (h : P s) (i : Instr) (hsys : setsSystem i = true → Ends P (exec i s)) :
    Ends P (exec i s) := by
  cases i with
  | ldsr | ctret | eiret | feret | reti => exact hsys rfl
  | nop | synce | syncm | syncp => exact k.advance h 2
  | mov | movImm5 | movImm32 | movea | movhi | mulh | mulhImm5 | mulhi | cmov | cmovImm5 | sasf | setf | sxb | sxh | zxb
  | zxh => exact k.move h _ _ _
  | add | addImm5 | addi | adf | sub | subr | sbf => exact k.arith h _ _ _
  | cmp | cmpImm5 => exact k.compare h _ _
  | mul | mulu | mulImm9 | muluImm9 => exact k.product h _ _ _
  | mac | macu => exact k.advance (k.setPair h _ _) 4
  | satadd | sataddImm5 | satadd3 | satsub | satsub3 | satsubi | satsubr => exact k.saturated h _ _ _
  | and | andi | not | or | ori | xor | xori => exact k.logical h _ _ _
  | tst => exact k.advance (k.putOSZ h _ _ _) 2
  | shr | shrImm5 | shr3 | sar | sarImm5 | sar3 | shl | shlImm5 | shl3 => exact k.shifted h _ _ _
  | bsw | bsh | hsw | hsh => exact k.swapped h _ _ _ _
  | sch0l | sch0r | sch1l | sch1r => exact k.searched h _ _
  | div | divhReg | divh | divhu | divu | divq | divqu => exact k.divide h _ _ _ _ _ _
  | jmp | jmp32 | jr22 | jr32 => exact k.setPc _ h
  | jarl22 | jarl32 => exact k.setPc _ (k.setReg h _ _)
  | bcond => exact k.bcond h _ _
  | ldB | ldBu | ldH | ldHu | ldW | ldB23 | ldBu23 | ldH23 | ldHu23 | ldW23 | sldB | sldBu | sldH | sldHu | sldW =>
    exact k.loadInto h _ _ _ _ _ _
  | stB | stB23 | stH | stH23 | stW | stW23 | sstB | sstH | sstW => exact k.storeFrom h _ _ _ _ _
  | clr1 | clr1Reg | not1 | not1Reg | set1 | set1Reg => exact k.bitModify h _ _ _ _
  | tst1 | tst1Reg => exact k.bitTest h _ _ _
  | caxi => exact (k.modify h _ _ _ _).finish fun _ _ ht => k.move (k.putFlags ht _ _ _ _) _ _ 4
  | callt => exact k.callt h _
  | switch => exact (k.loadAs h _ _ _ id).finish fun _ _ ht => k.setPc _ ht
  | prepare => exact k.prepared h _ _ fun _ ht => k.advance ht 4
  | prepareSp => exact k.prepared h _ _ fun t ht => k.move ht epReg (t.reg spReg) 4
  | prepareImm16 | prepareImm16Shl | prepareImm32 => exact k.prepared h _ _ fun _ ht => k.move ht _ _ _
  | dispose => exact k.disposed h _ _ fun _ ht => k.advance ht 4
  | disposeJmp _ _ reg1 => exact k.disposed h _ _ fun t ht => k.setPc (t.reg reg1) ht
  | rie | rieImm | trap | fetrap => exact k.takeException h _ _
  | syscall =>
    refine Acc.Keeps.finish ?_ fun _ _ ht => k.setPc _ ht
    exact k.readBytes (k.enter _ _ h) _ _
  | halt => exact k.advance (k.halted true h) 4
  | di | ei => exact k.advance (k.putId _ h) 4
  | stsr n r =>
    refine k.move ?_ _ _ 4
    split
    · exact k.free _ h
    · exact h
  | trfsr =>
    dsimp only [Machine.exec]
    exact k.withFpu h _ (k.advance (k.putZ h _) 4)
  | cmovfD =>
    dsimp only [Machine.exec, execCmovfD]
    refine k.withFpu h _ (k.advance ?_ 4)
    split
    · exact h
    · exact k.setPair h _ _
  | cmovfS =>
    dsimp only [Machine.exec, execCmovfS]
    refine k.withFpu h _ (k.advance ?_ 4)
    split
    · exact h
    · exact k.setReg h _ _
  | cmpfD | cmpfS =>
    dsimp only [Machine.exec]
    exact k.fpToCc h _ _ _ _
  | absfS | addfS | subfS | mulfS | divfS | maxfS | minfS | negfS | sqrtfS | recipfS | rsqrtfS | maddfS | msubfS
  | nmaddfS | nmsubfS | ceilfDuw | ceilfDw | ceilfSuw | ceilfSw | floorfDuw | floorfDw | floorfSuw | floorfSw | trncfDuw | trncfDw
  | trncfSuw | trncfSw | cvtfDs | cvtfDuw | cvtfDw | cvtfLs | cvtfSuw | cvtfSw | cvtfUls | cvtfUws | cvtfWs =>
    dsimp only [Machine.exec]
    exact k.fpToReg h _ _ _ _
  | absfD | addfD | subfD | mulfD | divfD | maxfD | minfD | negfD | sqrtfD | recipfD | rsqrtfD | ceilfDl | ceilfDul
  | ceilfSl | ceilfSul | floorfDl | floorfDul | floorfSl | floorfSul | trncfDl | trncfDul | trncfSl | trncfSul | cvtfDl
  | cvtfDul | cvtfLd | cvtfSd | cvtfSl | cvtfSul | cvtfUld | cvtfUwd | cvtfWd =>
    dsimp only [Machine.exec]
    exact k.fpToPair h _ _ _ _

/-! ### Steps -/

/-- A predicate that every operation of a step keeps. -/
structure StepKept (P : State → Prop) : Prop extends Kept P where
  environment : ∀ {s : State} (l : List Ext) (o : Option Nat), P s → P { s with inputs := l, stopAfter := o }
  reports : ∀ {s : State} (l : List Report), P s → P { s with reports := l }
  resetFrom : ∀ {s : State}, P s → P s.resetFrom
  tick : ∀ {s : State} (e : Ext), P s → P (s.tick e)
  /-- The TSI exception is acknowledged. -/
  tsi : ∀ {s : State}, P s → P { s with tsu := s.tsu.acknowledge }
  putPsw : ∀ {s : State} (v : Word), P s → P (s.putPsw v)
  tsuLeave : ∀ {s : State} (l : Level), P s → P (s.tsuLeave l)
  loadSys : ∀ {s : State} (n : BitVec 5) (v : Word), P s → P (s.loadSys n v)

namespace StepKept

variable (k : StepKept P)
include k

theorem returnTo (h : P s) (pc psw : Word) : P (s.returnTo pc psw) := k.setPc _ (k.putPsw psw h)

theorem reportEnd (h : P s) : P s.reportEnd := by
  unfold State.reportEnd
  split
  · exact h
  · exact k.reports _ h

/-- What every operation of a step keeps, every instruction keeps. -/
theorem exec (h : P s) (i : Instr) : Ends P (exec i s) := by
  refine k.toKept.exec h i fun hsys => ?_
  cases i with
  | ldsr reg2 n => exact k.advance (k.loadSys n _ h) 4
  | ctret => exact k.returnTo h _ _
  | eiret => exact k.tsuLeave .ei (k.returnTo (k.reportEnd h) _ _)
  | feret => exact k.tsuLeave .fe (k.returnTo (k.reportEnd h) _ _)
  | reti =>
    dsimp only [Machine.exec, execReti]
    split
    · exact k.returnTo (k.reportEnd h) _ _
    · exact k.returnTo (k.reportEnd h) _ _
  | _ => cases hsys

theorem acknowledge (h : P s) (r : Request) : P (s.acknowledge r) := by
  cases r with
  | fenmi | syserr | feint => exact k.takeException h _ _
  | ppi => exact k.takeException (k.ppu _ h) _ _
  | tsi => exact k.takeException (k.tsi h) _ _
  | fpi => exact k.takeException (k.fpu _ h) _ _
  | int => exact k.takeException (k.reports _ h) _ _

theorem reservedCpu (h : P s) (w : DWord) : Ends P (s.reservedCpu Machine.exec w) := by
  rcases s.reservedCpu_cases Machine.exec w with hr | ⟨i, -, hr⟩ | hr <;> rw [hr]
  · exact k.takeException h _ _
  · exact k.exec h i
  · trivial

theorem reservedFp (h : P s) (w : DWord) : Ends P (s.reservedFp Machine.exec w) := by
  unfold State.reservedFp
  split
  · split
    · exact k.takeException (k.fpu _ h) _ _
    · exact k.takeException h _ _
    · exact k.reservedCpu h w
  · exact k.takeException h _ _

theorem runHalves (h : P s) (h1 h2 h3 h4 : Half) : Ends P (s.runHalves Machine.exec h1 h2 h3 h4) := by
  unfold State.runHalves
  split
  · exact k.exec h _
  · exact k.reservedFp h _
  · exact k.reservedCpu h _

theorem fetchAndRun (h : P s) (e : Ext) : Ends P (s.fetchAndRun Machine.exec e) := by
  unfold State.fetchAndRun
  split
  · exact k.raiseMip h
  · exact k.takeException h _ _
  · trivial
  · trivial
  · exact k.runHalves h _ _ _ _

theorem boundary (h : P s) (e : Ext) : Ends P (s.boundary Machine.exec e) := by
  unfold State.boundary
  split
  · exact k.acknowledge h _
  · exact k.fetchAndRun h e

theorem tickOutcome {r : Result} (h : Ends P r) (e : Ext) : Ends P (tickOutcome e r) := by
  cases r with
  | next t => exact k.tick e h
  | fault f => trivial
  | refused r => trivial

/-- What every operation of a step keeps, every step keeps. -/
theorem step (h : P s) : Ends P (step s) := by
  have hd : P s.dropInput := k.environment _ _ h
  refine k.tickOutcome ?_ s.input
  split
  · exact k.resetFrom hd
  · split
    · split
      · exact k.boundary (k.halted false hd) s.input
      · exact hd
    · exact k.boundary hd s.input

end StepKept
end Sys2Proof.Machine
end

section
/-! PROOFS. LDSR's write: what it may change at all; PSW and its copies hold only bits that exist, and the program
counter is even. -/
namespace Sys2Proof.Machine

/-! ### What a write to a system register may change -/

/-- A write to MPM changes MPM, PSW and the counters at most. -/
theorem State.writeMpm_frame (s : State) (v : Word) :
    ∃ p w ts, s.writeMpm v = { s with prot := p, psw := w, tsu := ts } := by
  unfold State.writeMpm
  dsimp only
  split
  · exact ⟨_, _, _, rfl⟩
  · exact ⟨_, _, _, rfl⟩

/-- A write to a system register changes no register but system registers, PSW and the counters. -/
theorem State.writeSys_frame (s : State) (r : SysReg) (v : Word) :
    ∃ m p w ts f, s.writeSys r v = { s with main := m, prot := p, psw := w, tsu := ts, fpu := f } := by
  cases r with
  | mpm =>
    obtain ⟨p, w, ts, h⟩ := s.writeMpm_frame v
    exact ⟨_, p, w, ts, _, h⟩
  | swCtl | mpc =>
    dsimp only [State.writeSys, State.writeMpc]
    split
    · exact ⟨_, _, _, _, _, rfl⟩
    · exact ⟨_, _, _, _, _, rfl⟩
  | _ => exact ⟨_, _, _, _, _, rfl⟩

/-- The same of LDSR, whether its write is done or is a violation. -/
theorem State.loadSys_frame (s : State) (n : BitVec 5) (v : Word) :
    ∃ m p w ts f, s.loadSys n v = { s with main := m, prot := p, psw := w, tsu := ts, fpu := f } := by
  unfold State.loadSys
  split
  · exact ⟨_, _, _, _, _, rfl⟩
  · exact s.writeSys_frame _ v

/-! ### PSW and its copies -/

/-- A word with no bit set that PSW does not have. -/
def IsPsw (w : Word) : Prop := w &&& ~~~pswMask = 0

theorem IsPsw.and_pswMask (w : Word) : IsPsw (w &&& pswMask) := by
  simp [IsPsw, BitVec.and_assoc]

/-- A word that differs from a PSW in the flags alone is one. -/
theorem IsPsw.of_flags {v w : Word} (h : IsPsw v) (hw : w &&& ~~~flagsAll = v &&& ~~~flagsAll) : IsPsw w := by
  have hm : ~~~flagsAll &&& ~~~pswMask = ~~~pswMask := rfl
  calc w &&& ~~~pswMask = w &&& ~~~flagsAll &&& ~~~pswMask := by rw [BitVec.and_assoc, hm]
    _ = v &&& ~~~pswMask := by rw [hw, BitVec.and_assoc, hm]
    _ = 0 := h

/-- PSW written as a whole has no bit that does not exist (R56). -/
theorem State.isPsw_putPsw (s : State) (v : Word) : IsPsw (s.putPsw v).psw := by
  apply BitVec.eq_of_getLsbD_eq
  intro n hn
  rw [BitVec.getLsbD_and, State.putPsw_bit s v n hn, BitVec.getLsbD_not]
  cases pswMask.getLsbD n <;> simp [hn]

theorem State.PswLegal.of_main {s t : State} (h : s.PswLegal) (hmain : t.main = s.main) (hpsw : IsPsw t.psw) :
    t.PswLegal := by
  obtain ⟨-, hcopies⟩ := h
  rw [← hmain] at hcopies
  exact ⟨hpsw, hcopies⟩

theorem State.PswLegal.putPsw {s : State} (h : s.PswLegal) (v : Word) : (s.putPsw v).PswLegal :=
  h.of_main rfl (s.isPsw_putPsw v)

theorem State.PswLegal.saveContext {s : State} (h : s.PswLegal) (e : Exc) (ret : Word) :
    (s.saveContext e ret).PswLegal := by
  obtain ⟨hpsw, hei, hfe, hct⟩ := h
  unfold State.saveContext
  split
  · exact ⟨hpsw, hpsw, hfe, hct⟩
  · exact ⟨hpsw, hei, hpsw, hct⟩

theorem State.PswLegal.enter {s : State} (h : s.PswLegal) (e : Exc) (ret : Word) : (s.enter e ret).PswLegal :=
  (h.saveContext e ret).putPsw _

theorem State.PswLegal.writeMpm {s : State} (h : s.PswLegal) (v : Word) : (s.writeMpm v).PswLegal := by
  unfold State.writeMpm
  dsimp only
  split
  · exact h.of_main rfl (State.isPsw_putPsw _ _)
  · exact h.of_main rfl (State.isPsw_putPsw _ _)

theorem State.PswLegal.writeSys {s : State} (h : s.PswLegal) (r : SysReg) (v : Word) : (s.writeSys r v).PswLegal := by
  obtain ⟨hpsw, hei, hfe, hct⟩ := id h
  cases r with
  | eipsw => exact ⟨hpsw, IsPsw.and_pswMask v, hfe, hct⟩
  | fepsw => exact ⟨hpsw, hei, IsPsw.and_pswMask v, hct⟩
  | ctpsw => exact ⟨hpsw, hei, hfe, IsPsw.and_pswMask v⟩
  | psw => exact h.putPsw _
  | mpm => exact h.writeMpm v
  | swCtl | mpc =>
    dsimp only [State.writeSys, State.writeMpc]
    split
    · exact h
    · exact h
  | _ => exact h

theorem State.PswLegal.loadSys {s : State} (h : s.PswLegal) (n : BitVec 5) (v : Word) : (s.loadSys n v).PswLegal := by
  unfold State.loadSys
  split
  · exact h
  · exact h.writeSys _ v

/-! ### The invariant of O14 -/

/-- The program counter is even, and PSW and its copies hold only bits that exist. -/
def State.PcPswLegal (s : State) : Prop := s.PcLegal ∧ s.PswLegal

theorem State.PcPswLegal.loadSys {s : State} (h : s.PcPswLegal) (n : BitVec 5) (v : Word) :
    (s.loadSys n v).PcPswLegal := by
  obtain ⟨m, p, w, ts, f, hs⟩ := s.loadSys_frame n v
  refine ⟨?_, h.2.loadSys n v⟩
  rw [hs]
  exact h.1

theorem State.PcPswLegal.writeByte {s : State} (h : s.PcPswLegal) (a : Word) (b : Byte) :
    (s.writeByte a b).Keeps State.PcPswLegal := by
  cases hx : s.writeByte a b with
  | ok u t =>
    obtain ⟨m, ts, p, rfl, -⟩ := State.writeByte_ok hx
    exact h
  | trap t => exact absurd hx (State.writeByte_not_trap _ _ _ _)
  | refused r => trivial

theorem State.pcPswLegal_resetFrom (s : State) : s.resetFrom.PcPswLegal :=
  have h : IsPsw 0x20 := rfl
  ⟨pcValue_bit0 _ _, h, h, h, h⟩

theorem pcPswLegal_stepKept : StepKept State.PcPswLegal where
  regs _ h := h
  setPc a h := ⟨pcValue_bit0 _ a, h.2⟩
  flags hw h := ⟨h.1, h.2.of_main rfl (IsPsw.of_flags h.2.1 hw)⟩
  free _ h := h
  fpu _ h := h
  ppu _ h := h
  halted _ h := h
  writeByte a b h := h.writeByte a b
  violation _ _ h := h
  enter e ret h := ⟨by simpa [State.PcLegal] using h.1, h.2.enter e ret⟩
  link _ := fun ⟨hpc, hpsw, hei, hfe, _⟩ => ⟨hpc, hpsw, hei, hfe, hpsw⟩
  putId _ h := ⟨h.1, h.2.putPsw _⟩
  environment _ _ h := h
  reports _ h := h
  resetFrom _ := State.pcPswLegal_resetFrom _
  tick _ h := h
  tsi h := h
  putPsw v h := ⟨h.1, h.2.putPsw v⟩
  tsuLeave _ h := h
  loadSys n v h := h.loadSys n v

/-- Settles O14: the program counter being even and PSW and its copies having only bits that exist is kept by every
operation of a step. -/
theorem pcAndPswStayLegal : Obligations.PcAndPswStayLegal := by
  intro s t hpc hpsw hstep
  exact (pcPswLegal_stepKept.step ⟨hpc, hpsw⟩).of_eq hstep

end Sys2Proof.Machine
end

section
/-! PROOFS. Registers and pairs after a write (O20), and the state in which an exception is entered (O39). -/
namespace Sys2Proof.Machine

/-! ### Register pairs (R178) -/

theorem Pair.hi_ne_zero (p : Pair) : p.hi ≠ 0 := by revert p; decide

theorem Pair.lo_ne_hi (p : Pair) : p.lo ≠ p.hi := by revert p; decide

theorem Pair.lo_eq_zero (p : Pair) : p.lo = 0 ↔ p = 0 := by revert p; decide

/-- The odd register of a pair after the pair is written. -/
theorem State.reg_setPair_hi (s : State) (p : Pair) (d : DWord) :
    (s.setPair p d).reg p.hi = d.extractLsb' 32 32 := by
  rw [State.setPair, State.reg_setReg, if_pos ⟨rfl, Pair.hi_ne_zero p⟩]

/-- The even register of a pair after the pair is written: it is r0 only in pair 0. -/
theorem State.reg_setPair_lo (s : State) (p : Pair) (d : DWord) :
    (s.setPair p d).reg p.lo = if p = 0 then 0 else d.extractLsb' 0 32 := by
  rw [State.setPair, State.reg_setReg, if_neg (fun h => Pair.lo_ne_hi p h.1)]
  by_cases hp : p = 0
  · rw [if_pos hp, (Pair.lo_eq_zero p).2 hp, State.reg_zero]
  · rw [if_neg hp, State.reg_setReg, if_pos ⟨rfl, fun h => hp ((Pair.lo_eq_zero p).1 h)⟩]

/-- Settles O20. -/
theorem registerWrite : Obligations.RegisterWrite := by
  intro s r q v p d
  exact ⟨s.reg_setReg r q v, s.reg_zero, s.reg_setPair_hi p d, s.reg_setPair_lo p d⟩

/-! ### PSW -/

/-- The mask of all 32 bits. -/
@[simp] theorem and_fullWord (w : Word) : w &&& 0xFFFFFFFF#32 = w := BitVec.and_allOnes

/-- PSW written as a whole keeps the bits that can be 1 (R56, R852, R853). -/
theorem State.putPsw_psw (s : State) (v : Word) : (s.putPsw v).psw = v &&& s.pswAllowed := by
  unfold State.putPsw State.pswAllowed
  cases s.mpe <;> cases s.aue <;> simp [← BitVec.and_assoc]

/-- The bits that an exception of a level sets in PSW: ID and EP, and NP for the FE level. -/
def Level.pswSet : Level → Word
  | .ei => 0x60
  | .fe => 0xE0

theorem Level.getLsbD_pswSet (l : Level) (n : Nat) (hn : n < 32) :
    l.pswSet.getLsbD n = (decide (n = 5) || decide (n = 6) || (decide (l = .fe) && decide (n = 7))) := by
  cases l with
  | ei =>
    have h : Level.ei.pswSet = bitAt 5 ||| bitAt 6 := rfl
    rw [h, BitVec.getLsbD_or, getLsbD_bitAt _ _ hn, getLsbD_bitAt _ _ hn]
    simp
  | fe =>
    have h : Level.fe.pswSet = bitAt 5 ||| bitAt 6 ||| bitAt 7 := rfl
    rw [h, BitVec.getLsbD_or, BitVec.getLsbD_or, getLsbD_bitAt _ _ hn, getLsbD_bitAt _ _ hn, getLsbD_bitAt _ _ hn]
    simp

/-- The PSW of an exception as the model computes it, in one expression (R1018, R1036). -/
theorem State.excPsw_eq (s : State) (e : Exc) :
    s.excPsw e = (s.psw ||| e.level.pswSet) &&& (if e.interrupt then ~~~0x40#32 else 0xFFFFFFFF#32) &&&
      (if s.aue || e.protection then ~~~protMask else 0xFFFFFFFF#32) := by
  have hset : (if e.level = .fe then putBit (putBit (putBit s.psw 5 true) 6 (!e.interrupt)) 7 true
      else putBit (putBit s.psw 5 true) 6 (!e.interrupt)) =
      (s.psw ||| e.level.pswSet) &&& if e.interrupt then ~~~0x40#32 else 0xFFFFFFFF#32 := by
    apply BitVec.eq_of_getLsbD_eq
    intro n hn
    have h6 : (0x40#32).getLsbD n = decide (n = 6) := getLsbD_bitAt 6 n hn
    cases hl : e.level <;> cases e.interrupt <;>
      simp [getLsbD_putBit, Level.getLsbD_pswSet, hn, h6, -BitVec.getLsbD_eq_getElem, -BitVec.reduceNot] <;> grind
  unfold State.excPsw
  dsimp only
  rw [hset]
  cases s.aue || e.protection <;> simp

/-! ### Entering an exception (R1014 to R1019) -/

theorem State.pswAllowed_saveContext (s : State) (e : Exc) (ret : Word) :
    (s.saveContext e ret).pswAllowed = s.pswAllowed := by
  unfold State.saveContext
  split <;> rfl

/-- PSW at the handler (R1018, R1036). -/
theorem State.enter_psw (s : State) (e : Exc) (ret : Word) :
    (s.enter e ret).psw = s.pswAtHandler e.level.pswSet e.interrupt e.protection := by
  calc (s.enter e ret).psw = ((s.saveContext e ret).putPsw (s.excPsw e)).psw := rfl
    _ = s.excPsw e &&& s.pswAllowed := by rw [State.putPsw_psw, State.pswAllowed_saveContext]
    _ = s.pswAtHandler e.level.pswSet e.interrupt e.protection := by rw [State.excPsw_eq]; rfl

theorem State.enter_main_ei (s : State) (e : Exc) (ret : Word) (h : e.level = .ei) :
    (s.enter e ret).main = s.mainAfterEi ret e.code := by
  simp [State.saveContext, h, State.mainAfterEi]

theorem State.enter_main_fe (s : State) (e : Exc) (ret : Word) (h : e.level = .fe) :
    (s.enter e ret).main = s.mainAfterFe ret e.code := by
  simp [State.saveContext, h, State.mainAfterFe]

/-- What an exception does not touch. -/
theorem State.keepsData_enter (s : State) (e : Exc) (ret : Word) : KeepsData s (s.enter e ret) := by
  simp [KeepsData, SameRegsBut, SameMem, SameRest]

/-- The program counter is no datum. -/
theorem KeepsData.setPc {s t : State} (h : KeepsData s t) (a : Word) : KeepsData s (t.setPc a) := h

/-- An instruction that takes an EI level exception which is neither an interrupt nor a protection exception. -/
theorem entersEi_of_takeException {i : Instr} {s : State} {e : Exc} {ret : Word}
    (hi : exec i s = .next (s.takeException e ret)) (hl : e.level = .ei) (hint : e.interrupt = false)
    (hprot : e.protection = false) : EntersEi i s ret e.code e.offset := by
  refine ⟨_, hi, s.enter_main_ei e ret hl, ?_, s.takeException_pc e ret, s.takeException_prot e ret,
    (s.keepsData_enter e ret).setPc _⟩
  rw [State.takeException_psw, State.enter_psw, hl, hint, hprot]
  rfl

/-- An instruction that takes an FE level exception which is neither an interrupt nor a protection exception. -/
theorem entersFe_of_takeException {i : Instr} {s : State} {e : Exc} {ret : Word}
    (hi : exec i s = .next (s.takeException e ret)) (hl : e.level = .fe) (hint : e.interrupt = false)
    (hprot : e.protection = false) : EntersFe i s ret e.code e.offset := by
  refine ⟨_, hi, s.enter_main_fe e ret hl, ?_, s.takeException_pc e ret, s.takeException_prot e ret,
    (s.keepsData_enter e ret).setPc _⟩
  rw [State.takeException_psw, State.enter_psw, hl, hint, hprot]
  rfl

/-! ### The software exceptions -/

/-- A code that a vector is added to, as a number. -/
theorem code_add_vector {n : Nat} (base : Nat) (v : BitVec n) :
    BitVec.ofNat 32 base + v.setWidth 32 = BitVec.ofNat 32 (base + v.toNat) := by
  rw [BitVec.ofNat_add, BitVec.ofNat_toNat]

theorem entersEi_trap (s : State) (v : BitVec 5) :
    EntersEi (.trap v) s (s.pc + 4) (BitVec.ofNat 32 (0x40 + v.toNat)) (if v.toNat < 16 then 0x40 else 0x50) := by
  rw [← code_add_vector 0x40 v]
  simp only [← Nat.le_sub_one_iff_lt (show 0 < 16 by decide)]
  exact entersEi_of_takeException (e := .trap v) rfl rfl rfl rfl

theorem entersFe_fetrap (s : State) (v : BitVec 4) :
    EntersFe (.fetrap v) s (s.pc + 2) (BitVec.ofNat 32 (0x30 + v.toNat)) 0x30 := by
  rw [← code_add_vector 0x30 v]
  exact entersFe_of_takeException (e := .fetrap v) rfl rfl rfl rfl

/-- The table entry that SYSCALL reads: that of the vector, or of 0 when the vector exceeds SCCFG.SIZE (R614). -/
theorem syscall_entry (scbp sccfg : Word) (v : BitVec 8) :
    scbp + (if zext v ≤ sccfg &&& 0xFF#32 then zext v else 0) <<< 2 =
      scbp + BitVec.ofNat 32 (4 * if v.toNat ≤ sccfg.toNat % 256 then v.toNat else 0) := by
  have hmask : (sccfg &&& 0xFF#32).toNat = sccfg.toNat % 256 := by
    rw [BitVec.toNat_and]
    exact Nat.and_two_pow_sub_one_eq_mod sccfg.toNat 8
  have hv : (zext v).toNat = v.toNat := by simp [BitVec.toNat_setWidth]; omega
  have hle : zext v ≤ sccfg &&& 0xFF#32 ↔ v.toNat ≤ sccfg.toNat % 256 := by rw [BitVec.le_def, hmask, hv]
  congr 1
  simp only [hle]
  split
  · apply BitVec.eq_of_toNat_eq
    simp [BitVec.toNat_shiftLeft, Nat.shiftLeft_eq]
    omega
  · rfl

/-- SYSCALL, where its table entry lies in memory, enters the EI level and goes by the entry. -/
theorem exec_syscall {s : State} {v : BitVec 8} {entry : Word}
    (hentry : s.main.scbp + (if zext v ≤ s.main.sccfg &&& 0xFF#32 then zext v else 0) <<< 2 = entry)
    (hram : ∀ k < 4, memKind s.cfg (entry + BitVec.ofNat 32 k) = .ram) :
    exec (.syscall v) s =
      .next ((s.enter (.syscall v) (s.pc + 4)).setPc (s.main.scbp + s.bytesAt entry 4)) := by
  have hread : (s.enter (.syscall v) (s.pc + 4)).readBytes entry 4 =
      .ok (s.bytesAt entry 4) (s.enter (.syscall v) (s.pc + 4)) := by
    rw [State.readBytes_ram _ _ _ (by simpa using hram)]
    simp [State.bytesAt]
  dsimp only [exec, execSyscall]
  rw [hentry, hread]
  rfl

/-- Settles O39: each takes its exception, SYSCALL with its handler from the table. -/
theorem softwareExceptions : Obligations.SoftwareExceptions := by
  intro s v5 v4 v index entry
  refine ⟨entersEi_trap s v5, entersFe_fetrap s v4, entersFe_of_takeException (e := .rie) rfl rfl rfl rfl,
    entersFe_of_takeException (e := .rie) rfl rfl rfl rfl, fun hram => ?_⟩
  refine ⟨_, exec_syscall (syscall_entry _ _ v) hram, ?_, ?_, rfl, by simp, (s.keepsData_enter _ _).setPc _⟩
  · rw [State.setPc_main, State.enter_main_ei _ _ _ rfl, ← code_add_vector 0x8000 v]
    rfl
  · rw [State.setPc_psw, State.enter_psw]
    rfl

end Sys2Proof.Machine
end

section
/-! PROOFS. LDSR and STSR: what LDSR leaves alone, what a register reads after it is written (O44). -/
namespace Sys2Proof.Machine

/-! ### A value moved to a register -/

theorem State.holds_move (s : State) (dst : Reg) (v : Word) (len : Nat) : Holds (s.move dst v len) dst v := by
  unfold Holds State.move
  rw [State.reg_advance, State.reg_setReg]
  by_cases h : dst = 0
  · rw [if_neg (fun hd => hd.2 h), if_pos h, h, State.reg_zero]
  · rw [if_pos ⟨rfl, h⟩, if_neg h]

theorem State.falls_move (s : State) (dst : Reg) (v : Word) (len : Nat) : Falls len s (s.move dst v len) := by
  simp [Falls, State.move]

theorem State.onlyRegs_move (s : State) (dst : Reg) (v : Word) (len : Nat) :
    OnlyRegs [dst] 0 s (s.move dst v len) := by
  refine ⟨fun q hq => ?_, ?_⟩
  · rw [State.move, State.reg_advance, State.reg_setReg, if_neg (fun h => hq (by simp [h.1]))]
  · simp [State.move, SamePswBut, SameMem, SameSystem, SameRest]

theorem OnlyRegs.onlyRegsFree {ds : List Reg} {mask : Word} {s t : State} (h : OnlyRegs ds mask s t) :
    OnlyRegsFree ds mask s t := by
  obtain ⟨hregs, hpsw, hmem, hsys, hfpu, hrest, -⟩ := h
  exact ⟨hregs, hpsw, hmem, hsys, hfpu, hrest⟩

/-! ### LDSR -/

/-- LDSR gives a next state of which `P` holds, and touches system registers, PSW and the counters alone. -/
def LdsrGives (s : State) (r : Reg) (n : BitVec 5) (P : State → Prop) : Prop :=
  Gives (.ldsr r n) s fun t =>
    Falls 4 s t ∧ SameRegsBut [] s t ∧ t.mem = s.mem ∧ t.ppu = s.ppu ∧ SameRest s t ∧ t.free = s.free ∧ P t

/-- Whatever register LDSR names, what is to be shown is about the system registers alone. -/
theorem ldsrGives {s : State} {r : Reg} {n : BitVec 5} {P : State → Prop}
    (h : P ((s.loadSys n (s.reg r)).advance 4)) :
    LdsrGives s r n P := by
  obtain ⟨m, p, w, ts, f, hs⟩ := s.loadSys_frame n (s.reg r)
  refine ⟨(s.loadSys n (s.reg r)).advance 4, rfl, ?_, ?_, ?_, ?_, ?_, ?_, h⟩ <;> rw [hs]
  · rfl
  · exact fun q _ => State.reg_congr rfl q
  · rfl
  · rfl
  · exact ⟨rfl, rfl, rfl, rfl, rfl⟩
  · rfl

/-- With NPV = 0 LDSR writes the register that its number names. -/
theorem State.loadSys_of_npv {s : State} (h : s.fNPV = false) (n : BitVec 5) (v : Word) :
    s.loadSys n v = s.writeSys (s.sysReg n) v := by
  simp [State.loadSys, h]

/-! ### Which register a number names -/

/-- The register that a number names in a product with an FPU. -/
def namedReg (bsel : Word) (n : BitVec 5) : SysReg :=
  match n with
  | 28#5 => .eiwr
  | 29#5 => .fewr
  | 30#5 => .dbwr
  | 31#5 => .bsel
  | _ => bankReg bsel n.toNat

/-- Without an FPU its registers are reserved entries (R179). -/
theorem State.sysReg_eq (s : State) (n : BitVec 5) :
    s.sysReg n =
      if (namedReg s.main.bsel n).isFpu && !s.cfg.hasFpu then .reserved else namedReg s.main.bsel n := by
  unfold State.sysReg namedReg
  split <;> simp [SysReg.isFpu, *]

theorem State.sysReg_of_fpu {s : State} (h : s.cfg.hasFpu = true) (n : BitVec 5) :
    s.sysReg n = namedReg s.main.bsel n := by
  simp [State.sysReg_eq, h]

/-- A register that is none of the FPU's is named in every product. -/
theorem State.sysReg_of_not_isFpu {s : State} {n : BitVec 5} {x : SysReg} (h : namedReg s.main.bsel n = x)
    (hx : x.isFpu = false) : s.sysReg n = x := by
  simp [State.sysReg_eq, h, hx]

/-- What a number names depends on BSEL and on the product only. -/
theorem State.sysReg_congr {s t : State} (hb : t.main.bsel = s.main.bsel) (hc : t.cfg = s.cfg) (n : BitVec 5) :
    t.sysReg n = s.sysReg n := by
  unfold State.sysReg
  rw [hb, hc]

theorem State.writeSys_cfg (s : State) (r : SysReg) (v : Word) : (s.writeSys r v).cfg = s.cfg := by
  obtain ⟨m, p, w, ts, f, hs⟩ := s.writeSys_frame r v
  rw [hs]

/-- Only a write to BSEL changes the bank. -/
theorem State.writeSys_bsel {r : SysReg} (h : r ≠ .bsel) (s : State) (v : Word) :
    (s.writeSys r v).main.bsel = s.main.bsel := by
  cases r with
  | bsel => exact absurd rfl h
  | mpm =>
    obtain ⟨p, w, ts, hs⟩ := s.writeMpm_frame v
    rw [State.writeSys, hs]
  | swCtl | mpc =>
    dsimp only [State.writeSys, State.writeMpc]
    split
    · rfl
    · rfl
  | _ => rfl

theorem State.sysReg_writeSys {r : SysReg} (h : r ≠ .bsel) (s : State) (v : Word) (n : BitVec 5) :
    (s.writeSys r v).sysReg n = s.sysReg n :=
  State.sysReg_congr (State.writeSys_bsel h s v) (s.writeSys_cfg r v) n

theorem State.readSys_advance (s : State) (len : Nat) (r : SysReg) : (s.advance len).readSys r = s.readSys r := rfl

theorem State.sysReg_advance (s : State) (len : Nat) (n : BitVec 5) : (s.advance len).sysReg n = s.sysReg n := rfl

/-! ### Plain registers -/

/-- The writable bits of a register that stores what is written to them, and reads them back with 0 in the others, in a
product without the 512 MB limit. -/
def SysReg.plainBits : SysReg → Option Word
  | .eipc | .fepc | .eiic | .feic | .ctpc | .eiwr | .fewr | .vstid | .vmtid | .vmadr | .mca | .mcs | .tid =>
    some 0xFFFFFFFF
  | .eipsw | .fepsw | .ctpsw => some 0x000F00FF
  | .sccfg | .vsecr | .fpcc => some 0xFF
  | .scbp => some 0xFFFFFFFC
  | .ctbp | .vsadr => some 0xFFFFFFFE
  | .swCfg => some 1
  | .swBase => some 0xFFFFE000
  | .vmecr => some 0x7E
  | .mcr => some 0x117
  | .ipaU _ => some 0xFFFFFFF3
  | .dpaU _ => some 0xFFFFFFF6
  | .fpsr => some 0xFF3FFFFF
  | .fpepc => some 0x1FFFFFFE
  | .fpcfg => some 0x31F
  | .fpst => some 0xBF1F
  | _ => none

theorem limitAddr_unlimited {cfg : Config} (h : cfg.pcLimit512 = false) (v : Word) : limitAddr cfg v = v := by
  simp [limitAddr, h]

/-- FPST shows the bits of FPSR that its write reaches (R174). -/
theorem fpstOf_write (fpsr v : Word) :
    fpstOf ((fpsr &&& 0xFFFE03E0 ||| (v &&& 0x8000) <<< 1 ||| (v &&& 0x3F00) <<< 2 ||| v &&& 0x1F) &&& 0xFF3FFFFF) =
      v &&& 0xBF1F := by
  apply BitVec.eq_of_getLsbD_eq
  intro k hk
  unfold fpstOf
  interval_cases k <;> simp

/-- FPCC shows the bits of FPSR that its write reaches (R175). -/
theorem fpccOf_write (fpsr v : Word) : fpccOf ((fpsr &&& 0x00FFFFFF ||| v <<< 24) &&& 0xFF3FFFFF) = v &&& 0xFF := by
  apply BitVec.eq_of_getLsbD_eq
  intro k hk
  unfold fpccOf
  interval_cases k <;> simp

/-- FPCFG shows the bits of FPSR that its write reaches (R177). -/
theorem fpcfgOf_write (fpsr v : Word) :
    fpcfgOf ((fpsr &&& 0xFFF3FC1F ||| (v &&& 0x300) <<< 10 ||| (v &&& 0x1F) <<< 5) &&& 0xFF3FFFFF) = v &&& 0x31F := by
  apply BitVec.eq_of_getLsbD_eq
  intro k hk
  unfold fpcfgOf
  interval_cases k <;> simp

/-- A plain register reads the value written, restricted to its writable bits. -/
theorem State.readSys_writeSys {s : State} (hlim : s.cfg.pcLimit512 = false) {r : SysReg} {m : Word}
    (hr : r.plainBits = some m) (v : Word) : (s.writeSys r v).readSys r = v &&& m := by
  cases r with
  | eipc | fepc | ctpc =>
    cases hr
    simpa [State.readSys, State.writeSys] using limitAddr_unlimited hlim v
  | scbp | ctbp =>
    cases hr
    simp [State.readSys, State.writeSys, limitAddr_unlimited hlim]
  | swBase => cases hr; simp [State.readSys, State.writeSys, baseValue, limitAddr_unlimited hlim]
  | vsadr => cases hr; simp [State.readSys, State.writeSys, pcValue, limitAddr_unlimited hlim]
  | fpepc =>
    cases hr
    simp [State.readSys, State.writeSys, fpepcValue, pcValue, limitAddr_unlimited hlim, hlim, BitVec.and_assoc]
  | ipaU n | dpaU n => cases hr; simp [State.readSys, State.writeSys, Vector.get_eq_getElem]
  | fpst => cases hr; exact fpstOf_write _ v
  | fpcc => cases hr; exact fpccOf_write _ v
  | fpcfg => cases hr; exact fpcfgOf_write _ v
  | eiic | feic | eiwr | fewr | vstid | vmtid | vmadr | mca | mcs | tid => cases hr; exact (and_fullWord v).symm
  | eipsw | fepsw | ctpsw | sccfg | vsecr | swCfg | vmecr | mcr | fpsr => cases hr; rfl
  | _ => cases hr

/-- A plain register named by its bank and number reads back what LDSR writes. -/
theorem State.readSys_loadSys {s : State} (hfpu : s.cfg.hasFpu = true) (hlim : s.cfg.pcLimit512 = false)
    (hnpv : s.fNPV = false) {n : BitVec 5} {m : Word} (hplain : (namedReg s.main.bsel n).plainBits = some m)
    (v : Word) :
    (s.loadSys n v).readSys ((s.loadSys n v).sysReg n) = v &&& m := by
  rw [← State.sysReg_of_fpu hfpu] at hplain
  have hb : s.sysReg n ≠ .bsel := by
    intro h
    rw [h] at hplain
    cases hplain
  rw [State.loadSys_of_npv hnpv, State.sysReg_writeSys hb]
  exact State.readSys_writeSys hlim hplain v

/-! ### STSR -/

/-- STSR gives the register its value and changes nothing else but, for a reserved entry, the free values used. -/
theorem gives_stsr (s : State) (n : BitVec 5) (r : Reg) :
    Gives (.stsr n r) s fun t => (s.sysReg n ≠ .reserved → Holds t r (s.readSys (s.sysReg n))) ∧ Falls 4 s t ∧
      OnlyRegsFree [r] 0 s t := by
  refine ⟨_, rfl, fun _ => State.holds_move _ r _ 4, ?_⟩
  split
  · exact ⟨s.bump.falls_move r _ 4, (s.bump.onlyRegs_move r _ 4).onlyRegsFree⟩
  · exact ⟨s.falls_move r _ 4, (s.onlyRegs_move r _ 4).onlyRegsFree⟩

/-- Settles O44: each entry of the table names a plain register with these writable bits. -/
theorem ldsrThenRead : Obligations.LdsrThenRead := by
  intro s r n
  refine ⟨?_, gives_stsr s n r⟩
  obtain ⟨t, ht, hfalls, hregs, hmem, -, -, -, hread⟩ := ldsrGives (s := s) (r := r) (n := n)
    (P := fun t => t = (s.loadSys n (s.reg r)).advance 4) rfl
  refine ⟨t, ht, hregs, fun b => by rw [hmem], hfalls, fun hfpu hlim hnpv p hp hb hn => ?_⟩
  have hplain : (namedReg p.1 p.2.1).plainBits = some p.2.2 := by
    clear hb hn
    revert p
    exact List.forall_iff_forall_mem.1 (by decide)
  rw [← hb, ← hn] at hplain
  rw [hread, State.sysReg_advance, State.readSys_advance]
  exact State.readSys_loadSys hfpu hlim hnpv hplain (s.reg r)

end Sys2Proof.Machine
end

section
/-! PROOFS. LDSR to the registers whose write is an action (O45). -/
namespace Sys2Proof.Machine

/-! ### PSW and the counters -/

/-- A write of PSW that leaves ID as it is leaves the counters. -/
theorem State.putPsw_tsu {s : State} {v : Word} (h : (s.putPsw v).fID = s.fID) : (s.putPsw v).tsu = s.tsu :=
  if_pos h.symm

/-- PSW written to itself keeps ID. -/
theorem State.putPsw_self_fID (s : State) : (s.putPsw s.psw).fID = s.fID := by
  have hmask : pswMask.getLsbD 5 = true := rfl
  have hprot : protMask.getLsbD 5 = false := rfl
  rw [State.fID, State.putPsw_bit _ _ _ (by decide), hmask, hprot]
  simp [State.fID]

/-! ### MPM (R124, R852) -/

/-- The protection registers after MPM is written. -/
theorem State.writeMpm_prot (s : State) (v : Word) :
    (s.writeMpm v).prot = { s.prot with mpm := v &&& (1 ||| bitAt s.cfg.aueBit ||| bitAt s.cfg.spsBit) } := by
  unfold State.writeMpm
  dsimp only
  split <;> rfl

theorem State.writeMpm_main (s : State) (v : Word) : (s.writeMpm v).main = s.main := by
  obtain ⟨p, w, ts, h⟩ := s.writeMpm_frame v
  rw [h]

theorem State.writeMpm_fpu (s : State) (v : Word) : (s.writeMpm v).fpu = s.fpu := by
  obtain ⟨p, w, ts, h⟩ := s.writeMpm_frame v
  rw [h]

/-- PSW keeps the bits that the new MPM allows. -/
theorem State.writeMpm_psw (s : State) (v : Word) : (s.writeMpm v).psw = s.psw &&& (s.writeMpm v).pswAllowed := by
  unfold State.writeMpm
  dsimp only
  split
  · exact State.putPsw_psw _ _
  · exact State.putPsw_psw _ _

/-- A counter whose ACT is cleared does not operate. -/
theorem Counter.act_putCfg_false (c : Counter) : (c.putCfg 0 false).act = false := by
  simp [Counter.act, Counter.putCfg, getElem_putBit]

/-- With MPE = 0 no counter operates after MPM is written. -/
theorem State.writeMpm_act {s : State} {v : Word} (h : (s.writeMpm v).mpe = false) :
    ∀ c ∈ (s.writeMpm v).tsu.counters.toList, c.act = false := by
  unfold State.writeMpm at h ⊢
  dsimp only at h ⊢
  split at h
  · rename_i ht
    exact absurd (ht.symm.trans h) (by decide)
  · rename_i ht
    rw [if_neg ht]
    intro c hc
    simp only [TsuRegs.each, Vector.toList_map, List.mem_map] at hc
    obtain ⟨d, -, rfl⟩ := hc
    exact d.act_putCfg_false

/-- With MPE = 1 the counters stay as they are. -/
theorem State.writeMpm_tsu {s : State} {v : Word} (h : (s.writeMpm v).mpe = true) : (s.writeMpm v).tsu = s.tsu := by
  unfold State.writeMpm at h ⊢
  dsimp only at h ⊢
  split at h
  · rename_i ht
    rw [if_pos ht]
    exact State.putPsw_tsu (State.putPsw_self_fID _)
  · rename_i ht
    exact absurd h ht

/-! ### The protection areas (R125, R130, R132, R884) -/

/-- A lower limit as it reads after it is written: S is 1 where MPM.SPS leaves the area to the stack pointer. -/
theorem putBit_areaLower (w : Word) (b : Bool) :
    putBit (w &&& areaLowerMask) 1 b = w &&& 0xFFFFFFF5 ||| if b then 2 else 0 := by
  cases b
  · have h : areaLowerMask &&& ~~~bitAt 1 = 0xFFFFFFF5#32 := rfl
    simp only [putBit, Bool.false_eq_true, if_false, BitVec.and_assoc, h]
    simp
  · rfl

/-- The enable bit of an area after MPC is written. -/
theorem Area.disable_if (p : Area) (b : Bool) :
    (if b then p.disable else p) = { p with lower := p.lower &&& if b then ~~~1#32 else 0xFFFFFFFF } := by
  cases b
  · simp
  · rfl

/-- The protection registers after MPC is written: every area goes by its bit 0. -/
theorem State.writeMpc_eq (s : State) (v : Word) :
    s.writeMpc v = { s with prot := { s.prot with
      ipa := s.prot.ipa.map fun p => if v.getLsbD 0 then p.disable else p
      dpa := s.prot.dpa.map fun p => if v.getLsbD 0 then p.disable else p } } := by
  unfold State.writeMpc
  cases v.getLsbD 0
  · simp
  · rfl

/-! ### LDSR with NPV = 0 -/

/-- PSW and the counters stay. -/
def KeepsPsw (s t : State) : Prop := t.psw = s.psw ∧ t.tsu = s.tsu

/-- LDSR to a register that its number names: what is to be shown is about the write alone. -/
theorem ldsrGives_write {s : State} {r : Reg} {n : BitVec 5} {x : SysReg} {P : State → Prop} (hnpv : s.fNPV = false)
    (hx : s.sysReg n = x) (h : P ((s.writeSys x (s.reg r)).advance 4)) : LdsrGives s r n P := by
  apply ldsrGives
  rw [State.loadSys_of_npv hnpv, hx]
  exact h

/-- The number names the register, in any product. -/
theorem State.sysReg_of_bank {s : State} {b : Word} {n : BitVec 5} (hb : s.main.bsel = b)
    (hx : (namedReg b n).isFpu = false) : s.sysReg n = namedReg b n :=
  State.sysReg_of_not_isFpu (by rw [hb]) hx

/-- LDSR to a register whose write changes the main registers alone. -/
theorem ldsrGives_main {s : State} {r : Reg} {n : BitVec 5} {x : SysReg} {m : MainRegs} (hnpv : s.fNPV = false)
    (hx : s.sysReg n = x) (hw : s.writeSys x (s.reg r) = s.setMain m) :
    LdsrGives s r n fun t => t.main = m ∧ t.prot = s.prot ∧ t.fpu = s.fpu ∧ KeepsPsw s t := by
  apply ldsrGives_write hnpv hx
  rw [hw]
  exact ⟨rfl, rfl, rfl, rfl, rfl⟩

/-- PSW takes its existing bits, with NPV = 1 only bits 5 to 0 (R56, R863); it is never a violation. -/
theorem ldsrGives_psw {s : State} {r : Reg} {n : BitVec 5} (hx : s.sysReg n = .psw) :
    LdsrGives s r n fun t =>
      t.psw = (if s.fNPV then s.psw &&& ~~~0x3F#32 ||| s.reg r &&& 0x3F else s.reg r) &&& s.pswAllowed ∧
        t.main = s.main ∧ t.prot = s.prot ∧ t.fpu = s.fpu ∧ (t.fID = s.fID → t.tsu = s.tsu) := by
  apply ldsrGives
  have hload : s.loadSys n (s.reg r) = s.writeSys .psw (s.reg r) := by
    simp [State.loadSys, hx, SysReg.isProtected]
  rw [hload]
  exact ⟨s.putPsw_psw _, rfl, rfl, rfl, State.putPsw_tsu⟩

/-- MPM takes MPE, AUE and SPS; PSW and the counters follow (R124, R852, R853). -/
theorem ldsrGives_mpm {s : State} {r : Reg} {n : BitVec 5} (hnpv : s.fNPV = false) (hx : s.sysReg n = .mpm) :
    LdsrGives s r n fun t =>
      t.prot = { s.prot with mpm := s.reg r &&& (1#32 ||| 1#32 <<< s.cfg.aueBit ||| 1#32 <<< s.cfg.spsBit) } ∧
        t.psw = s.psw &&& t.pswAllowed ∧ t.main = s.main ∧ t.fpu = s.fpu ∧
        (t.mpe = false → ∀ c ∈ t.tsu.counters.toList, c.act = false) ∧ (t.mpe = true → t.tsu = s.tsu) :=
  ldsrGives_write hnpv hx ⟨s.writeMpm_prot _, s.writeMpm_psw _, s.writeMpm_main _, s.writeMpm_fpu _,
    State.writeMpm_act, State.writeMpm_tsu⟩

/-- MPC clears the enable bit of every area if bit 0 is written (R125, R884). -/
theorem ldsrGives_mpc {s : State} {r : Reg} {n : BitVec 5} (hnpv : s.fNPV = false) (hx : s.sysReg n = .mpc) :
    LdsrGives s r n fun t =>
      t.prot = { s.prot with ipa := t.prot.ipa, dpa := t.prot.dpa } ∧ t.main = s.main ∧ t.fpu = s.fpu ∧
        KeepsPsw s t ∧
        (∀ k : Fin 5, t.prot.ipa.get k = { s.prot.ipa.get k with
          lower := (s.prot.ipa.get k).lower &&& (if (s.reg r).getLsbD 0 then ~~~1#32 else 0xFFFFFFFF) }) ∧
        (∀ k : Fin 6, t.prot.dpa.get k = { s.prot.dpa.get k with
          lower := (s.prot.dpa.get k).lower &&& (if (s.reg r).getLsbD 0 then ~~~1#32 else 0xFFFFFFFF) }) := by
  apply ldsrGives_write hnpv hx
  rw [State.writeSys, State.writeMpc_eq]
  refine ⟨rfl, rfl, rfl, ⟨rfl, rfl⟩, fun k => ?_, fun k => ?_⟩
  · rw [← Area.disable_if]
    exact Vector.getElem_map _ k.isLt
  · rw [← Area.disable_if]
    exact Vector.getElem_map _ k.isLt

/-- The lower limit of an instruction area takes its bits but S (R130, R134). -/
theorem ldsrGives_ipaL {s : State} {r : Reg} {n : BitVec 5} {k : Fin 5} (hnpv : s.fNPV = false)
    (hx : s.sysReg n = .ipaL k) :
    LdsrGives s r n fun t =>
      (t.prot = { s.prot with ipa := t.prot.ipa } ∧ (t.prot.ipa.get k).upper = (s.prot.ipa.get k).upper ∧
        ∀ j, j ≠ k → t.prot.ipa.get j = s.prot.ipa.get j) ∧
      t.readSys (t.sysReg n) = (s.reg r &&& 0xFFFFFFF5 ||| if !s.sps then 2 else 0) ∧ t.main = s.main ∧
      t.fpu = s.fpu ∧ KeepsPsw s t := by
  apply ldsrGives_write hnpv hx
  rw [State.sysReg_advance, State.sysReg_writeSys (by simp), hx, State.readSys_advance, ← putBit_areaLower]
  refine ⟨⟨rfl, ?_, fun j hj => ?_⟩, ?_, rfl, rfl, rfl, rfl⟩
  · simp [State.writeSys, Vector.get_eq_getElem]
  · exact Vector.getElem_set_ne k.isLt j.isLt fun h => hj (Fin.ext h.symm)
  · simp [State.writeSys, State.readSys, State.areaLower, State.sps, Vector.get_eq_getElem]

/-- The lower limit of a data area takes its bits but S, which is 1 in DPA0 (R132, R134). -/
theorem ldsrGives_dpaL {s : State} {r : Reg} {n : BitVec 5} {k : Fin 6} (hnpv : s.fNPV = false)
    (hx : s.sysReg n = .dpaL k) :
    LdsrGives s r n fun t =>
      (t.prot = { s.prot with dpa := t.prot.dpa } ∧ (t.prot.dpa.get k).upper = (s.prot.dpa.get k).upper ∧
        ∀ j, j ≠ k → t.prot.dpa.get j = s.prot.dpa.get j) ∧
      t.readSys (t.sysReg n) = (s.reg r &&& 0xFFFFFFF5 ||| if k == 0 || !s.sps then 2 else 0) ∧ t.main = s.main ∧
      t.fpu = s.fpu ∧ KeepsPsw s t := by
  apply ldsrGives_write hnpv hx
  rw [State.sysReg_advance, State.sysReg_writeSys (by simp), hx, State.readSys_advance, ← putBit_areaLower]
  refine ⟨⟨rfl, ?_, fun j hj => ?_⟩, ?_, rfl, rfl, rfl, rfl⟩
  · simp [State.writeSys, Vector.get_eq_getElem]
  · exact Vector.getElem_set_ne k.isLt j.isLt fun h => hj (Fin.ext h.symm)
  · simp [State.writeSys, State.readSys, State.areaLower, State.sps, Vector.get_eq_getElem]

/-! ### The numbers of the area registers (R122, R123) -/

theorem namedReg_ipaL (k : Fin 5) {n : BitVec 5} (hn : n.toNat = 6 + 2 * k.val) {b : Word}
    (hb : b = 0x1001 ∨ b = 0x1010) : namedReg b n = .ipaL k := by
  obtain rfl : n = BitVec.ofNat 5 (6 + 2 * k.val) := by rw [← hn, BitVec.ofNat_toNat, BitVec.setWidth_eq]
  clear hn
  rcases hb with rfl | rfl <;> revert k <;> decide

theorem namedReg_dpaL (k : Fin 6) {n : BitVec 5} (hn : n.toNat = 16 + 2 * k.val) {b : Word}
    (hb : b = 0x1001 ∨ b = 0x1010) : namedReg b n = .dpaL k := by
  obtain rfl : n = BitVec.ofNat 5 (16 + 2 * k.val) := by rw [← hn, BitVec.ofNat_toNat, BitVec.setWidth_eq]
  clear hn
  rcases hb with rfl | rfl <;> revert k <;> decide

/-- The protection setting bank and the paging bank name MPM and MPC alike (R122, R123). -/
theorem namedReg_mpm {b : Word} (hb : b = 0x1001 ∨ b = 0x1010) : namedReg b 0 = .mpm ∧ namedReg b 1 = .mpc := by
  rcases hb with rfl | rfl <;> decide

/-- PSW is number 5 of the main bank and of the two user banks (R42, R75, R76). -/
theorem namedReg_psw {b : Word} (hb : b = 0 ∨ b = 0xFF00 ∨ b = 0xFFFF) : namedReg b 5 = .psw := by
  rcases hb with rfl | rfl | rfl <;> decide

/-- Settles O45: the register that each number names, and its write. -/
theorem specialRegisterWrites : Obligations.SpecialRegisterWrites := by
  intro s r n w b writes plain toMain toLower free
  refine ⟨fun hn hb => ?_, fun hnpv => ⟨fun hn => ?_, fun hn => ?_, fun hb hn => ?_, fun hbn => ?_, fun hb =>
    ⟨fun hn => ?_, fun hn => ?_, fun k hn => ?_, fun k hn => ?_⟩, fun hb hn hfpu => ?_⟩⟩
  · subst hn
    exact ldsrGives_psw (State.sysReg_of_not_isFpu (namedReg_psw hb) rfl)
  · subst hn
    exact ldsrGives_main hnpv (x := .bsel) rfl rfl
  · subst hn
    exact ldsrGives_main hnpv (x := .dbwr) rfl rfl
  · subst hn
    refine ldsrGives_main hnpv (State.sysReg_of_bank hb rfl) ?_
    change (if w.getLsbD 0 then _ else s) = _
    split <;> rfl
  · rcases hbn with ⟨hb, rfl⟩ | ⟨hb, rfl | rfl | rfl⟩ <;>
      exact ldsrGives_main hnpv (State.sysReg_of_bank hb rfl) rfl
  · subst hn
    exact ldsrGives_mpm hnpv (State.sysReg_of_not_isFpu (namedReg_mpm hb).1 rfl)
  · subst hn
    exact ldsrGives_mpc hnpv (State.sysReg_of_not_isFpu (namedReg_mpm hb).2 rfl)
  · exact ldsrGives_ipaL hnpv (State.sysReg_of_not_isFpu (namedReg_ipaL k hn hb) rfl)
  · exact ldsrGives_dpaL hnpv (State.sysReg_of_not_isFpu (namedReg_dpaL k hn hb) rfl)
  · subst hn
    refine ldsrGives_write hnpv (x := .fpec) ?_ ⟨rfl, rfl, rfl, rfl, rfl⟩
    rw [State.sysReg_of_fpu hfpu, show s.main.bsel = 0x2000 from hb]
    rfl

end Sys2Proof.Machine
end

section
/-! PROOFS. The state after reset (O11, O12). -/
namespace Sys2Proof.Machine

/-! ### A reset at a boundary -/

/-- A boundary with the reset input resets the machine, whatever else is presented (R1103). -/
theorem step_of_reset {s : State} (h : s.input.reset = true) :
    step s = .next (s.dropInput.resetFrom.tick s.input) := by
  rw [step, State.stepWith, if_pos h]
  rfl

/-- The counters are stopped after reset, so that the clocks of the step that resets leave them (R180). -/
theorem State.resetFrom_tick_counter (s : State) (e : Ext) (k : Fin 6) :
    (s.resetFrom.tick e).tsu.counters.get k = ⟨0, 0, 0, 0, 0⟩ := by
  have hk : s.resetFrom.tsu.counters.get k = ⟨0, 0, 0, 0, 0⟩ := by
    simp [State.resetFrom, TsuRegs.reset, Vector.get_eq_getElem]
  rw [State.tick_counter, hk]
  exact Counter.tick_stopped _ rfl

theorem State.resetFrom_reg (s : State) (r : Reg) : s.resetFrom.reg r = 0 := by
  simp [State.reg, State.resetFrom, Vector.get_eq_getElem]

/-- Settles O12: the step answers the reset state, whose counters the clocks of the step leave. -/
theorem resetInput : Obligations.ResetInput := by
  intro s hreset
  refine ⟨_, step_of_reset hreset, rfl, rfl, rfl, rfl, rfl, rfl, rfl, rfl, fun r => ?_, rfl, fun k => ?_, rfl⟩
  · rw [State.reg_tick, State.resetFrom_reg]
  · rw [State.resetFrom_tick_counter]
    exact ⟨rfl, rfl, rfl, rfl⟩

/-! ### The reset state -/

/-- A reset leaves the reset state as it is. -/
theorem State.resetFrom_reset : State.reset.resetFrom = State.reset := rfl

/-- No protection bit is set after reset (R180). -/
theorem State.levelLegal_reset : State.reset.LevelLegal := ⟨fun _ => rfl, fun _ => rfl⟩

/-- Every TSCCFG is 0 after reset (R180). -/
theorem State.reset_counters : ∀ c ∈ State.reset.tsu.counters.toList, c.cfg = 0 := by decide

theorem State.countersLegal_reset : State.reset.CountersLegal := by
  intro _ c hc
  rw [Counter.act, State.reset_counters c hc]
  rfl

/-- Settles O11: the values by computation; the program counter and PSW are legal as after every reset. -/
theorem resetValues : Obligations.ResetValues := by
  obtain ⟨hpc, hpsw⟩ := State.reset.pcPswLegal_resetFrom
  rw [State.resetFrom_reset] at hpc hpsw
  exact ⟨rfl, rfl, rfl, rfl, rfl, rfl, rfl, rfl, rfl, rfl, rfl, rfl, rfl, rfl, State.reset_counters, rfl, rfl, rfl,
    hpc, hpsw, State.levelLegal_reset, State.countersLegal_reset⟩

end Sys2Proof.Machine
end

section
/-! PROOFS. Accesses that peripheral protection stops: what each shared operation then answers, and what stores and
read-modify-writes leave (O37). -/
namespace Sys2Proof.Machine

/-! ### Displacements (R292, R293) -/

/-- A displacement without its bit 0 stands for twice its number. -/
theorem sext_even {n : Nat} (d : BitVec (n + 1)) : sext (even d) = BitVec.ofInt 32 (2 * d.toInt) := by
  have htwice : (even d).toInt = 2 * d.toInt := by simp [BitVec.toInt_append]
  rw [← htwice]
  rfl

theorem zext_eq {n : Nat} (d : BitVec n) : zext d = BitVec.ofNat 32 d.toNat := (BitVec.ofNat_toNat 32 d).symm

theorem zext_even {n : Nat} (d : BitVec n) : zext (even d) = BitVec.ofNat 32 (2 * d.toNat) := by
  rw [zext_eq, BitVec.toNat_append, BitVec.toNat_ofNat]
  congr 1
  simp [Nat.shiftLeft_eq, Nat.mul_comm]

theorem zext_quad {n : Nat} (d : BitVec n) : zext (quad d) = BitVec.ofNat 32 (4 * d.toNat) := by
  rw [zext_eq, BitVec.toNat_append, BitVec.toNat_ofNat]
  congr 1
  simp [Nat.shiftLeft_eq, Nat.mul_comm]

section
variable (s : State) {n : Nat}

theorem State.based_even (r : Reg) (d : BitVec (n + 1)) :
    s.based r (sext (even d)) = s.reg r + BitVec.ofInt 32 (2 * d.toInt) := congrArg (s.reg r + ·) (sext_even d)

theorem State.epBased_zext (d : BitVec n) : s.epBased (zext d) = s.reg 30 + BitVec.ofNat 32 d.toNat :=
  congrArg (s.reg 30 + ·) (zext_eq d)

theorem State.epBased_even (d : BitVec n) : s.epBased (zext (even d)) = s.reg 30 + BitVec.ofNat 32 (2 * d.toNat) :=
  congrArg (s.reg 30 + ·) (zext_even d)

theorem State.epBased_quad (d : BitVec n) : s.epBased (zext (quad d)) = s.reg 30 + BitVec.ofNat 32 (4 * d.toNat) :=
  congrArg (s.reg 30 + ·) (zext_quad d)

end

/-- The index of an entry, doubled (R612). -/
theorem shiftLeft_one (w : Word) : w <<< 1 = BitVec.ofNat 32 (2 * w.toNat) := by
  apply BitVec.eq_of_toNat_eq
  simp [Nat.shiftLeft_eq, Nat.mul_comm]

theorem wordsOf_eq (imm5 : BitVec 5) : wordsOf imm5 = BitVec.ofNat 32 (4 * imm5.toNat) := zext_quad imm5

/-- The bit number that a register holds (R558). -/
theorem bitNumber_eq (w : Word) : (w.setWidth 3).toNat = w.toNat % 8 := BitVec.toNat_setWidth 3 w

/-! ### The state after a stopped access -/

/-- The state after an access is judged and stopped: the unit has recorded it (R893 to R895). -/
def State.stoppedAt (s : State) (a : Word) (n : Nat) (write : Bool) : State := { s with ppu := s.unitAfter a n write }

section
variable {s : State} {a v : Word} {n : Nat} {sp : Bool}

theorem State.loadAs_stopped {ext : Word → Word} (h : s.Stopped a n false sp) :
    s.loadAs a n sp ext = .ok (freeWord s.free) (s.stoppedAt a n false).bump := by
  have hj := State.judge_of_stopped h
  rw [State.loadAs_blocked h.1 (by rw [hj]), hj]
  rfl

theorem State.store_stopped (h : s.Stopped a n true sp) : s.store a v n sp = .ok () (s.stoppedAt a n true) := by
  rw [State.store, if_pos h.1, State.performWrite, State.judge_of_stopped h]
  rfl

/-- A read-modify-write whose read is stopped does not write either (D28). -/
theorem State.modify_readStopped {f : Word → Word} (hw : s.permits a n true sp = true) (h : s.Stopped a n false sp) :
    s.modify a n sp f = .ok (freeWord s.free, false) (s.stoppedAt a n false).bump := by
  rw [State.modify, h.1, hw, Bool.and_true, if_pos rfl, State.performRead, State.judge_of_stopped h]
  rfl

/-- A read-modify-write whose write alone is stopped gives what it has read. -/
theorem State.modify_writeStopped {f : Word → Word} (hr : s.reaches a n false sp) (h : s.Stopped a n true sp) :
    s.modify a n sp f = .ok (s.bytesAt a n, true) (s.stoppedAt a n true) := by
  obtain ⟨hperm, hjudge, hram⟩ := hr
  have hstate := (s.judge_state a n false).2 hjudge
  have hread : s.performRead a n = .ok (s.bytesAt a n, true) s := by
    rw [State.performRead, ← Prod.mk.eta (p := s.judge a n false), hjudge, hstate]
    simp [State.readBytes_ram s a n hram]
  have hwrite : s.performWrite a (f (s.bytesAt a n)) n = .ok () (s.stoppedAt a n true) := by
    rw [State.performWrite, State.judge_of_stopped h]
    rfl
  rw [State.modify, hperm, h.1, Bool.and_true, if_pos rfl, hread, Acc.bind_ok, if_pos rfl, hwrite]
  rfl

end

/-- While a PPI exception is reported in the NT state nothing is recorded (R895). -/
theorem State.unitAfter_of_invalidates {s : State} (h : s.Invalidates) (a : Word) (n : Nat) (w : Bool) :
    s.unitAfter a n w = s.ppu := by
  obtain ⟨hpp, hppec⟩ := h
  rw [State.unitAfter, hpp, hppec]
  rfl

/-! ### What a stopped access leaves -/

section
variable {s t : State} {p : PpuRegs} {ds : List Reg} {mask : Word}

theorem State.onlyUnit_stoppedAt (s : State) (a : Word) (n : Nat) (w : Bool) (ds : List Reg) (mask : Word) :
    OnlyUnit (s.unitAfter a n w) ds mask s (s.stoppedAt a n w) :=
  ⟨rfl, fun _ _ => State.reg_congr rfl _, rfl, rfl, rfl, rfl, rfl, rfl, rfl, rfl, rfl, rfl, rfl⟩

theorem OnlyUnit.refl (s : State) : OnlyUnit s.ppu ds mask s s :=
  ⟨rfl, fun _ _ => rfl, rfl, rfl, rfl, rfl, rfl, rfl, rfl, rfl, rfl, rfl, rfl⟩

theorem OnlyUnit.bump (h : OnlyUnit p ds mask s t) : OnlyUnit p ds mask s t.bump := h

theorem OnlyUnit.setPc (h : OnlyUnit p ds mask s t) (a : Word) : OnlyUnit p ds mask s (t.setPc a) := h

theorem OnlyUnit.advance (h : OnlyUnit p ds mask s t) (len : Nat) : OnlyUnit p ds mask s (t.advance len) := h

/-- A listed register may be written. -/
theorem OnlyUnit.setReg (h : OnlyUnit p ds mask s t) {r : Reg} (hr : r ∈ ds) (v : Word) :
    OnlyUnit p ds mask s (t.setReg r v) := by
  obtain ⟨hppu, hregs, hrest⟩ := h
  refine ⟨by rw [State.setReg_ppu, hppu], fun q hq => ?_, ?_⟩
  · rw [State.reg_setReg, if_neg (fun ⟨hqr, _⟩ => hq (hqr ▸ hr)), hregs q hq]
  · simpa [SamePswBut, SameRest] using hrest

/-- The flags of the mask may be written. -/
theorem OnlyUnit.psw (h : OnlyUnit p ds mask s t) {w : Word} (hw : w &&& ~~~mask = t.psw &&& ~~~mask) :
    OnlyUnit p ds mask s { t with psw := w } := by
  obtain ⟨hppu, hregs, hpsw, hrest⟩ := h
  exact ⟨hppu, hregs, hw.trans hpsw, hrest⟩

theorem OnlyUnit.putZ (h : OnlyUnit p ds 1 s t) (z : Bool) : OnlyUnit p ds 1 s (t.putZ z) :=
  h.psw (and_putBit t.psw _ 0 z rfl)

theorem OnlyUnit.putArith (h : OnlyUnit p ds flagsCOSZ s t) (f : Flagged) :
    OnlyUnit p ds flagsCOSZ s (t.putArith f) :=
  h.psw (t.psw_putFlags _ _ _ _ _ rfl)

theorem OnlyUnit.cfg (h : OnlyUnit p ds mask s t) : t.cfg = s.cfg := by
  obtain ⟨-, -, -, -, -, -, -, -, -, -, -, -, hcfg⟩ := h
  exact hcfg

theorem OnlyUnit.psw_eq (h : OnlyUnit p ds 0 s t) : t.psw = s.psw := by
  obtain ⟨-, -, hpsw, -⟩ := h
  simpa [SamePswBut] using hpsw

/-- Memory protection judges an access as before. -/
theorem OnlyUnit.permits (h : OnlyUnit p ds 0 s t) (a : Word) (n : Nat) (w sp : Bool) :
    t.permits a n w sp = s.permits a n w sp := by
  obtain ⟨-, -, -, -, -, hprot, -⟩ := id h
  simp only [State.permits, State.fDMP, State.granted, State.grants, State.sps, h.psw_eq, hprot, h.cfg]

theorem OnlyUnit.invalidates (h : OnlyUnit s.ppu ds 0 s t) (hs : s.Invalidates) : t.Invalidates := by
  obtain ⟨hpp, hppec⟩ := hs
  exact ⟨by rwa [State.fPP, h.psw_eq], by rwa [h.1]⟩

/-- The program goes on after an instruction that has left the program counter. -/
theorem OnlyUnit.falls (h : OnlyUnit p ds mask s t) (hpc : t.pc = s.pc) (len : Nat) : Falls len s (t.advance len) := by
  rw [Falls, State.advance_pc, hpc, h.cfg]

end

/-! ### Stores, loads and bit instructions -/

section
variable {i : Instr} {s : State} {a a' v : Word} {n len : Nat} {sp : Bool} {dst : Reg}

theorem storeStops (hexec : exec i s = s.storeFrom a' v n sp len) (ha : a' = a) : StoreStops i s a n sp len := by
  subst ha
  intro h
  have hunit := s.onlyUnit_stoppedAt a' n true [] 0
  rw [State.storeFrom, State.store_stopped h] at hexec
  exact ⟨_, hexec, hunit.falls rfl len, hunit.advance len⟩

theorem loadStops {ext : Word → Word} (hexec : exec i s = s.loadInto a' n sp ext dst len) (ha : a' = a) :
    LoadStops i s a n sp dst 0 len := by
  subst ha
  intro h
  have hunit := (s.onlyUnit_stoppedAt a' n false [dst] 0).bump.setReg List.mem_cons_self (freeWord s.free)
  rw [State.loadInto, State.loadAs_stopped h] at hexec
  exact ⟨_, hexec, hunit.falls (State.setReg_pc _ _ _) len, hunit.advance len⟩

theorem testStops {bit : Nat} (hexec : exec i s = s.bitTest a sp bit) : LoadStops i s a 1 sp 0 1 4 := by
  intro h
  have hunit := (s.onlyUnit_stoppedAt a 1 false [0] 1).bump.putZ (!(freeWord s.free).getLsbD bit)
  rw [State.bitTest, State.load, State.loadAs_stopped h] at hexec
  exact ⟨_, hexec, hunit.falls rfl 4, hunit.advance 4⟩

/-- A bit of the one byte that is read. -/
theorem State.getLsbD_bytesAt_one (s : State) (a : Word) (bit : Nat) :
    (s.bytesAt a 1).getLsbD bit = (s.mem.read a.toNat).getLsbD bit := by
  have hlt : (s.mem.read a.toNat).getLsbD bit = true → bit < 32 := fun h => by
    have := BitVec.lt_of_getLsbD h
    omega
  simpa [State.bytesAt] using hlt

theorem modifyStops {bit bit' : Nat} {f : Word → Word} (hexec : exec i s = s.bitModify a sp bit' f)
    (hbit : bit' = bit) : ModifyStops i s a sp bit := by
  subst hbit
  intro hw
  rw [State.bitModify] at hexec
  refine ⟨fun hr => ?_, fun hr hstop => ?_⟩
  · have hunit := (s.onlyUnit_stoppedAt a 1 false [] 0).bump
    rw [State.modify_readStopped hw hr] at hexec
    exact ⟨_, hexec, hunit.falls rfl 4, hunit.advance 4⟩
  · have hunit := (s.onlyUnit_stoppedAt a 1 true [] 1).putZ (!(s.bytesAt a 1).getLsbD bit')
    rw [State.modify_writeStopped hr hstop] at hexec
    refine ⟨_, hexec, ?_, hunit.falls rfl 4, hunit.advance 4⟩
    rw [← State.getLsbD_bytesAt_one]
    exact State.fZ_putZ _ _

end

/-! ### CAXI -/

/-- The difference of two words (R8). -/
theorem subc_value (a b : Word) : (subc a b false).value = BitVec.ofInt 32 (a.toInt - b.toInt) := by
  apply BitVec.eq_of_toInt_eq
  simp [subc, BitVec.toInt_sub, BitVec.toInt_ofInt]

/-- OV says that the signed difference is out of range (R8). -/
theorem subc_ov (a b : Word) : (subc a b false).ov = decide ¬Fits (a.toInt - b.toInt) := by
  have h := BitVec.ssubOverflow_eq a b
  have hr : (subc a b false).ov = BitVec.ssubOverflow a b := by
    rw [h]
    simp only [subc]
    cases a.msb <;> cases b.msb <;> simp
  rw [hr, BitVec.ssubOverflow, Bool.eq_iff_iff]
  simp
  omega

/-- The four flags of a comparison (R419). -/
theorem State.flagsAre_putArith_subc (s : State) (a b : Word) :
    FlagsAre (s.putArith (subc a b false)) (decide (a.toNat < b.toNat)) (decide ¬Fits (a.toInt - b.toInt))
      (BitVec.ofInt 32 (a.toInt - b.toInt)) := by
  rw [← subc_value, ← subc_ov]
  refine ⟨(State.fCY_putFlags ..).trans ?_, State.fOV_putFlags .., (State.fS_putFlags ..).trans ?_,
    State.fZ_putFlags ..⟩
  · simp [subc]
  · exact BitVec.msb_eq_toInt

/-- What CAXI leaves when its accesses end in `t` with the word `v` (R580). -/
theorem OnlyUnit.compareMove {p : PpuRegs} {s t : State} {dst : Reg} (h : OnlyUnit p [dst] flagsCOSZ s t)
    (f : Flagged) (v : Word) : OnlyUnit p [dst] flagsCOSZ s (t.compareMove f dst v) :=
  ((h.putArith f).setReg List.mem_cons_self v).advance 4

theorem State.holds_compareMove (s : State) (f : Flagged) (dst : Reg) (v : Word) :
    Holds (s.compareMove f dst v) dst v := (s.putArith f).holds_move dst v 4

theorem State.falls_compareMove {s t : State} (hpc : t.pc = s.pc) (hcfg : t.cfg = s.cfg) (f : Flagged) (dst : Reg)
    (v : Word) : Falls 4 s (t.compareMove f dst v) := by
  rw [Falls, ← hpc, ← hcfg]
  exact (t.putArith f).falls_move dst v 4

/-- Writing a register does not touch the flags. -/
theorem State.flagsAre_compareMove {s : State} {f : Flagged} {cy ov : Bool} {r : Word}
    (h : FlagsAre (s.putArith f) cy ov r) (dst : Reg) (v : Word) : FlagsAre (s.compareMove f dst v) cy ov r := by
  have hpsw : (s.compareMove f dst v).psw = (s.putArith f).psw := State.setReg_psw _ _ _
  simpa only [FlagsAre, State.fCY, State.fOV, State.fS, State.fZ, hpsw] using h

section
variable {s : State} {r1 r2 r3 : Reg}

/-- CAXI ends with the flags and the write of its register, whatever its access gives. -/
theorem exec_caxi_of_modify {v : Word × Bool} {t : State}
    (h : ∀ f, s.modify (wordAligned (s.reg r1)) 4 (r1 == spReg) f = .ok v t) :
    exec (.caxi r1 r2 r3) s = .next (t.compareMove (subc (s.reg r2) v.1 false) r3 v.1) := by
  rw [exec, execCaxi, h]
  rfl

theorem caxi_readStopped (hw : s.permits (wordAligned (s.reg r1)) 4 true (r1 == spReg) = true)
    (h : s.Stopped (wordAligned (s.reg r1)) 4 false (r1 == spReg)) :
    Gives (.caxi r1 r2 r3) s fun t =>
      Falls 4 s t ∧ OnlyUnit (s.unitAfter (wordAligned (s.reg r1)) 4 false) [r3] flagsCOSZ s t :=
  ⟨_, exec_caxi_of_modify fun _ => State.modify_readStopped hw h, State.falls_compareMove rfl rfl _ _ _,
    (State.onlyUnit_stoppedAt ..).bump.compareMove _ _⟩

theorem caxi_writeStopped (hr : s.reaches (wordAligned (s.reg r1)) 4 false (r1 == spReg))
    (h : s.Stopped (wordAligned (s.reg r1)) 4 true (r1 == spReg)) :
    Gives (.caxi r1 r2 r3) s fun t =>
      let w := s.bytesAt (wordAligned (s.reg r1)) 4
      Holds t r3 w ∧ FlagsAre t (decide ((s.reg r2).toNat < w.toNat)) (decide ¬Fits ((s.reg r2).toInt - w.toInt))
        (BitVec.ofInt 32 ((s.reg r2).toInt - w.toInt)) ∧
      Falls 4 s t ∧ OnlyUnit (s.unitAfter (wordAligned (s.reg r1)) 4 true) [r3] flagsCOSZ s t :=
  ⟨_, exec_caxi_of_modify fun _ => State.modify_writeStopped hr h, State.holds_compareMove _ _ _ _,
    State.flagsAre_compareMove (State.flagsAre_putArith_subc _ _ _) _ _, State.falls_compareMove rfl rfl _ _ _,
    (State.onlyUnit_stoppedAt ..).compareMove _ _⟩

end

/-- Settles O37: each instruction is a store, a bit modification or CAXI at its address. -/
theorem peripheralWriteIsBlocked : Obligations.PeripheralWriteIsBlocked := by
  intro s r1 r2 r3 b d16 d15 d23 d22 d7 d6 sp a e m x w
  exact ⟨storeStops rfl rfl, storeStops rfl rfl, storeStops rfl (s.based_even r1 d15),
    storeStops rfl (s.based_even r1 d22), storeStops rfl (s.based_even r1 d15), storeStops rfl (s.based_even r1 d22),
    storeStops rfl (s.epBased_zext d7), storeStops rfl (s.epBased_even d7), storeStops rfl (s.epBased_quad d6),
    modifyStops rfl rfl, modifyStops rfl rfl, modifyStops rfl rfl, modifyStops rfl (bitNumber_eq _),
    modifyStops rfl (bitNumber_eq _), modifyStops rfl (bitNumber_eq _), caxi_readStopped, caxi_writeStopped⟩

end Sys2Proof.Machine
end

section
/-! PROOFS. Table jumps and register lists that peripheral protection stops (O38). -/
namespace Sys2Proof.Machine

/-! ### Table jumps -/

/-- CALLT by a free entry has saved its context, and nothing else but the unit differs (R581, R893). -/
theorem calltStops {s : State} {imm6 : BitVec 6} {c : Word} (hc : s.main.ctbp + zext (even imm6) = c)
    (h : s.Stopped c 2 false false) :
    Gives (.callt imm6) s fun t =>
      t.main = { s.main with ctpc := limitAddr s.cfg (s.pc + 2), ctpsw := s.psw } ∧ t.ppu = s.unitAfter c 2 false ∧
      t.psw = s.psw ∧ SameRegsBut [] s t ∧ t.mem = s.mem ∧ t.prot = s.prot ∧ t.tsu = s.tsu ∧ t.fpu = s.fpu ∧
      SameRest s t := by
  refine ⟨_, by rw [exec, execCallt, hc, State.load, State.loadAs_stopped h, Acc.finish_ok], ?_⟩
  exact ⟨rfl, rfl, rfl, fun _ _ => State.reg_congr rfl _, rfl, rfl, rfl, rfl, rfl, rfl, rfl, rfl, rfl⟩

/-- SWITCH by a free entry changes nothing but the unit and the program counter (R612, R893). -/
theorem switchStops {s : State} {r : Reg} {w : Word} (hw : s.pc + 2 + s.reg r <<< 1 = w)
    (h : s.Stopped w 2 false false) :
    Gives (.switch r) s fun t => OnlyUnit (s.unitAfter w 2 false) [] 0 s t := by
  refine ⟨_, by rw [exec, execSwitch, hw, State.load, State.loadAs_stopped h, Acc.finish_ok], ?_⟩
  exact (State.onlyUnit_stoppedAt ..).bump.setPc _

/-! ### Register lists -/

section
variable {s : State}

theorem State.stoppedAt_of_invalidates (h : s.Invalidates) (a : Word) (n : Nat) (w : Bool) : s.stoppedAt a n w = s := by
  rw [State.stoppedAt, State.unitAfter_of_invalidates h]

/-- `k + 1` words are one word and `k` more. -/
theorem four_mul_succ (k : Nat) : 4 * BitVec.ofNat 32 (k + 1) = 4 + 4 * BitVec.ofNat 32 k := by
  rw [BitVec.ofNat_add, BitVec.mul_add, BitVec.add_comm]
  rfl

/-- An immediate in the high halfword (R600). -/
theorem append_zeros16 (v : Half) : v ++ 0#16 = BitVec.ofNat 32 (65536 * v.toNat) := by
  refine BitVec.eq_of_toNat_eq ((BitVec.toNat_append v 0#16).trans ?_)
  rw [BitVec.toNat_ofNat _ 32, Nat.mod_eq_of_lt (by have := v.isLt; omega), Nat.shiftLeft_eq, Nat.mul_comm]
  exact Nat.or_zero _

/-- While accesses are invalidated PREPARE's stores change nothing (R895). -/
theorem State.pushRegs_invalidated (h : s.Invalidates) (adr : Word) (rs : List Reg)
    (hperm : ∀ k < rs.length, s.permits (wordAligned (adr - 4 * BitVec.ofNat 32 (k + 1))) 4 true true = true) :
    s.pushRegs adr rs = .ok (adr - 4 * BitVec.ofNat 32 rs.length) s := by
  induction rs generalizing adr with
  | nil => simp [State.pushRegs]
  | cons r rs ih =>
    have hfirst : s.Stopped (wordAligned (adr - 4)) 4 true true := ⟨hperm 0 (Nat.succ_pos _), .inl h⟩
    have hnext : ∀ k < rs.length,
        s.permits (wordAligned (adr - 4 - 4 * BitVec.ofNat 32 (k + 1))) 4 true true = true := fun k hk => by
      have := hperm (k + 1) (Nat.succ_lt_succ hk)
      rwa [four_mul_succ (k + 1), ← BitVec.sub_sub] at this
    rw [State.pushRegs, State.store_stopped hfirst, State.stoppedAt_of_invalidates h, Acc.bind_ok, ih _ hnext,
      List.length_cons, four_mul_succ, BitVec.sub_sub]

/-- While accesses are invalidated DISPOSE's loads give free values (R895). `t` is the state part of the way, `s` the one
before the instruction. -/
theorem State.popRegs_invalidated {t : State} {ds : List Reg} (h : s.Invalidates) (ht : OnlyUnit s.ppu ds 0 s t)
    (adr : Word) (rs : List Reg) (hds : rs ⊆ ds)
    (hperm : ∀ k < rs.length, s.permits (wordAligned (adr + 4 * BitVec.ofNat 32 k)) 4 false true = true) :
    ∃ u, t.popRegs adr rs = .ok (adr + 4 * BitVec.ofNat 32 rs.length) u ∧ OnlyUnit s.ppu ds 0 s u ∧ u.pc = t.pc := by
  induction rs generalizing t adr with
  | nil => exact ⟨t, by simp [State.popRegs], ht, rfl⟩
  | cons r rs ih =>
    obtain ⟨hr, hrs⟩ := List.cons_subset.1 hds
    have hfirst : t.permits (wordAligned adr) 4 false true = true := by
      simpa [ht.permits] using hperm 0 (Nat.succ_pos _)
    have hnext : ∀ k < rs.length, s.permits (wordAligned (adr + 4 + 4 * BitVec.ofNat 32 k)) 4 false true = true :=
      fun k hk => by
        have := hperm (k + 1) (Nat.succ_lt_succ hk)
        rwa [four_mul_succ, ← BitVec.add_assoc] at this
    have hload : t.load (wordAligned adr) 4 true = .ok (freeWord t.free) t.bump := by
      rw [State.load, State.loadAs_stopped ⟨hfirst, .inl (ht.invalidates h)⟩,
        State.stoppedAt_of_invalidates (ht.invalidates h)]
    obtain ⟨u, hpop, hu, hpc⟩ := ih (ht.bump.setReg hr (freeWord t.free)) (adr + 4) hrs hnext
    refine ⟨u, ?_, hu, hpc.trans (State.setReg_pc _ _ _)⟩
    rw [State.popRegs, hload, Acc.bind_ok, hpop, List.length_cons, four_mul_succ, BitVec.add_assoc]

/-- The stack pointer below the words of a list and `imm5` more (R599). -/
def State.spBelow (s : State) (l : BitVec 12) (imm5 : BitVec 5) : Word :=
  s.reg spReg - 4 * BitVec.ofNat 32 (listRegs l).length - BitVec.ofNat 32 (4 * imm5.toNat)

/-- The stack pointer above the words of a list and `imm5` more (R587). -/
def State.spAbove (s : State) (l : BitVec 12) (imm5 : BitVec 5) : Word :=
  s.reg spReg + BitVec.ofNat 32 (4 * imm5.toNat) + 4 * BitVec.ofNat 32 (listRegs l).length

/-- What PREPARE leaves of which every store is invalidated: `f` completes it (R599, R895). -/
theorem State.prepared_invalidated {l : BitVec 12} {imm5 : BitVec 5} {f : State → State} (h : s.Invalidates)
    (hstop : s.stopAfter = none) (hperm : ∀ k < (listRegs l).length, s.permits (s.pushAddress k) 4 true true = true) :
    s.prepared l imm5 f = .next (f (s.setReg spReg (s.spBelow l imm5))) := by
  rw [State.prepared, State.stopPoint_none hstop, State.spBelow, ← wordsOf_eq]
  exact congrArg (Acc.finish · _) (State.pushRegs_invalidated h (s.reg spReg) (listRegs l) hperm)

/-- What DISPOSE leaves of which every load is invalidated: `f` completes it (R587, R895). -/
theorem State.disposed_invalidated {l : BitVec 12} {imm5 : BitVec 5} {f : State → State} (h : s.Invalidates)
    (hstop : s.stopAfter = none)
    (hperm : ∀ k < (listRegs l).length, s.permits (s.popAddress imm5 k) 4 false true = true) :
    ∃ t, s.disposed l imm5 f = .next (f t) ∧ OnlyUnit s.ppu (spReg :: listRegs l) 0 s t ∧ t.pc = s.pc ∧
      t.reg spReg = s.spAbove l imm5 := by
  have hds : (listRegs l).reverse ⊆ spReg :: listRegs l := fun _ hr => List.mem_cons_of_mem _ (List.mem_reverse.1 hr)
  rw [← List.length_reverse] at hperm
  obtain ⟨u, hpop, hu, hpc⟩ := State.popRegs_invalidated h (.refl s) (s.reg spReg + wordsOf imm5) _ hds hperm
  rw [List.length_reverse, wordsOf_eq] at hpop
  refine ⟨_, by rw [State.disposed, State.stopPoint_none hstop, wordsOf_eq, hpop, Acc.finish_ok],
    hu.setReg List.mem_cons_self _, (State.setReg_pc _ _ _).trans hpc, ?_⟩
  exact (State.reg_setReg _ _ _ _).trans (if_pos ⟨rfl, by decide⟩)

end

/-! ### PREPARE and DISPOSE -/

section
variable {i : Instr} {s : State} {l : BitVec 12} {imm5 : BitVec 5}

/-- PREPARE without a value for ep (R599). -/
theorem prepareStops (hexec : exec i s = s.prepared l imm5 fun t => t.advance 4) (h : s.Invalidates)
    (hstop : s.stopAfter = none) (hperm : ∀ k < (listRegs l).length, s.permits (s.pushAddress k) 4 true true = true) :
    Gives i s fun t =>
      t.reg spReg = s.spBelow l imm5 ∧ (∀ p ∈ ([] : List (Reg × Word)), t.reg p.1 = p.2) ∧ Falls 4 s t ∧
        OnlyUnit s.ppu [spReg] 0 s t := by
  rw [State.prepared_invalidated h hstop hperm] at hexec
  exact ⟨_, hexec, s.holds_move spReg _ 4, by simp, s.falls_move spReg _ 4,
    (OnlyUnit.refl s).setReg List.mem_cons_self _⟩

/-- PREPARE with a value for ep (R600). -/
theorem prepareEpStops {ep : State → Word} {len : Nat} {w : Word}
    (hexec : exec i s = s.prepared l imm5 fun t => t.move epReg (ep t) len)
    (hep : ep (s.setReg spReg (s.spBelow l imm5)) = w) (h : s.Invalidates) (hstop : s.stopAfter = none)
    (hperm : ∀ k < (listRegs l).length, s.permits (s.pushAddress k) 4 true true = true) :
    Gives i s fun t =>
      t.reg spReg = s.spBelow l imm5 ∧ (∀ p ∈ [(epReg, w)], t.reg p.1 = p.2) ∧ Falls len s t ∧
        OnlyUnit s.ppu [spReg, epReg] 0 s t := by
  rw [State.prepared_invalidated h hstop hperm, hep] at hexec
  have hsp : OnlyUnit s.ppu [spReg, epReg] 0 s (s.setReg spReg (s.spBelow l imm5)) :=
    (OnlyUnit.refl s).setReg List.mem_cons_self _
  refine ⟨_, hexec, ?_, ?_, ?_, ?_⟩
  · rw [State.move, State.reg_advance, State.reg_setReg, if_neg (by decide)]
    exact s.holds_move spReg _ 4
  · intro p hp
    obtain rfl := List.mem_singleton.1 hp
    exact State.holds_move _ epReg w len
  · exact (hsp.setReg (by decide) w).falls (by rw [State.setReg_pc, State.setReg_pc]) len
  · exact hsp.setReg (by decide) w

/-- DISPOSE: `next` is where it goes on (R587, R588). -/
theorem disposeStops {f : State → State} {next : State → Word} (hexec : exec i s = s.disposed l imm5 f)
    (hf : ∀ t, t.pc = s.pc → f t = t.setPc (next (f t))) (h : s.Invalidates) (hstop : s.stopAfter = none)
    (hperm : ∀ k < (listRegs l).length, s.permits (s.popAddress imm5 k) 4 false true = true) :
    Gives i s fun t =>
      t.reg spReg = s.spAbove l imm5 ∧ t.pc = pcValue s.cfg (next t) ∧ OnlyUnit s.ppu (spReg :: listRegs l) 0 s t := by
  obtain ⟨t, hdispose, hunit, hpc, hsp⟩ := State.disposed_invalidated (f := f) h hstop hperm
  refine ⟨f t, hexec.trans hdispose, ?_, ?_, ?_⟩
  · rw [hf t hpc, State.reg_setPc, hsp]
  · rw [hf t hpc, State.setPc_pc, hunit.cfg, ← hf t hpc]
  · rw [hf t hpc]
    exact hunit.setPc _

end

/-- Settles O38: each instruction is a load, a bit test, a table jump or a register list at its addresses. -/
theorem blockedReads : Obligations.BlockedReads := by
  intro s r1 r2 b d16 d15 d23 d22 d7 d6 d4 i6 l i5 i16 i32 sp a e c w n size sp' pushes pops
  have load15 := s.based_even r1 d15
  have load22 := s.based_even r1 d22
  refine ⟨loadStops rfl rfl, loadStops rfl rfl, loadStops rfl load15, loadStops rfl load15, loadStops rfl load15,
    loadStops rfl rfl, loadStops rfl rfl, loadStops rfl load22, loadStops rfl load22, loadStops rfl load22,
    loadStops rfl (s.epBased_zext d7), loadStops rfl (s.epBased_zext d4), loadStops rfl (s.epBased_even d7),
    loadStops rfl (s.epBased_even d4), loadStops rfl (s.epBased_quad d6), testStops rfl, testStops rfl,
    calltStops ?_, switchStops ?_, prepareStops rfl, prepareEpStops (ep := fun t => t.reg spReg) rfl ?_,
    prepareEpStops (ep := fun _ => sext i16) rfl rfl,
    prepareEpStops (ep := fun _ => i16 ++ 0#16) rfl (append_zeros16 i16),
    prepareEpStops (ep := fun _ => i32) rfl rfl, disposeStops (f := fun t => t.advance 4) rfl ?_,
    disposeStops (f := fun t => t.setPc (t.reg r1)) rfl ?_⟩
  · exact congrArg (s.main.ctbp + ·) (zext_even i6)
  · exact congrArg (s.pc + 2 + ·) (shiftLeft_one _)
  · exact (State.reg_setReg _ _ _ _).trans (if_pos ⟨rfl, by decide⟩)
  · intro t hpc
    rw [State.advance, hpc]
    rfl
  · intro t _
    rw [State.reg_setPc]

end Sys2Proof.Machine
end

section
/-! PROOFS. The timing supervision counters: what a step's clocks do to one, and a store to TSCCFGn (O47). -/
namespace Sys2Proof.Machine

namespace Counter

/-! ### One count (R911, R912) -/

/-- The count after `n` counts that meet no comparison, up or down (R911). -/
def after (c : Counter) (n : Nat) : BitVec 28 := if c.udm then c.cnt - BitVec.ofNat 28 n else c.cnt + BitVec.ofNat 28 n

/-- The count passes the end of its range within `n` counts (R911). -/
def wrapsIn (c : Counter) (n : Nat) : Bool :=
  if c.udm then decide (c.cnt.toNat < n) else decide (2 ^ 28 ≤ c.cnt.toNat + n)

/-- The counter with OS set if the next count wraps (R911). -/
def markWrap (c : Counter) : Counter := if c.wrapsIn 1 then c.putCfg 10 true else c

theorem count_eq (c : Counter) :
    c.count =
      if c.after 1 = c.cmp then { c.markWrap.putCfg 8 true with cnt := if c.arm then c.rld else c.after 1 }
      else { c.markWrap with cnt := c.after 1 } := by
  have hwrap : (if c.udm then c.cnt == 0 else c.after 1 == 0) = c.wrapsIn 1 := by
    rw [wrapsIn, after, Bool.eq_iff_iff]
    have := c.cnt.isLt
    split
    · simp [← BitVec.toNat_inj]
    · simp [← BitVec.toNat_inj, BitVec.toNat_add]
      omega
  have hnext : (if c.udm then c.cnt - 1 else c.cnt + 1) = c.after 1 := rfl
  have harm : (c.markWrap.putCfg 8 true).arm = c.arm := by
    unfold markWrap arm putCfg
    split <;> simp [getElem_putBit]
  have hcmp : c.markWrap.cmp = c.cmp := by unfold markWrap; split <;> rfl
  have hrld : (c.markWrap.putCfg 8 true).rld = c.rld := by unfold markWrap; split <;> rfl
  rw [← hcmp]
  simp only [count, hnext, hwrap]
  change (if c.after 1 = c.markWrap.cmp then _ else { c.markWrap with cnt := c.after 1 }) = _
  split
  · change (if (c.markWrap.putCfg 8 true).arm then _ else { c.markWrap.putCfg 8 true with cnt := c.after 1 }) = _
    rw [harm]
    split
    · rw [← hrld]
      rfl
    · rfl
  · rfl

/-- A bit of TSCCFGn after the wrap is marked: OS tells of it, the others stay. -/
theorem getLsbD_markWrap (c : Counter) {n : Nat} (hn : n < 32) :
    c.markWrap.cfg.getLsbD n = (c.cfg.getLsbD n || (decide (n = 10) && c.wrapsIn 1)) := by
  unfold markWrap
  cases c.wrapsIn 1
  · simp
  · rw [if_pos rfl, putCfg, getLsbD_putBit _ _ _ _ hn]
    split <;> simp [*]

/-- Two counters differ at most in the count, OS, VS and the prescaler phase. -/
def SameSettings (c d : Counter) : Prop :=
  d.cmp = c.cmp ∧ d.rld = c.rld ∧ d.cfg &&& ~~~0x500#32 = c.cfg &&& ~~~0x500#32

theorem SameSettings.trans {c d e : Counter} (h : c.SameSettings d) (h' : d.SameSettings e) : c.SameSettings e := by
  obtain ⟨hcmp, hrld, hcfg⟩ := h
  obtain ⟨hcmp', hrld', hcfg'⟩ := h'
  exact ⟨hcmp'.trans hcmp, hrld'.trans hrld, hcfg'.trans hcfg⟩

theorem SameSettings.udm {c d : Counter} (h : c.SameSettings d) : d.udm = c.udm := by
  obtain ⟨-, -, hcfg⟩ := h
  simpa [Counter.udm] using congrArg (BitVec.getLsbD · 16) hcfg

theorem sameSettings_count (c : Counter) : c.SameSettings c.count := by
  have hmark : c.markWrap.cmp = c.cmp ∧ c.markWrap.rld = c.rld ∧
      c.markWrap.cfg &&& ~~~0x500#32 = c.cfg &&& ~~~0x500#32 := by
    unfold markWrap
    split
    · exact ⟨rfl, rfl, and_putBit _ _ 10 true rfl⟩
    · exact ⟨rfl, rfl, rfl⟩
  obtain ⟨hcmp, hrld, hcfg⟩ := hmark
  rw [count_eq]
  split
  · exact ⟨hcmp, hrld, (and_putBit _ _ 8 true rfl).trans hcfg⟩
  · exact ⟨hcmp, hrld, hcfg⟩

/-- A count that meets no comparison (R911). -/
theorem count_of_ne {c : Counter} (h : c.after 1 ≠ c.cmp) :
    c.count.cnt = c.after 1 ∧ c.count.vs = c.vs ∧ c.count.cfg.getLsbD 10 = (c.cfg.getLsbD 10 || c.wrapsIn 1) := by
  rw [count_eq, if_neg h]
  exact ⟨rfl, (c.getLsbD_markWrap (by decide)).trans (Bool.or_false _), c.getLsbD_markWrap (by decide)⟩

/-- A count that meets TSCCMP reports it, and reloads in auto reload mode (R912, R914). -/
theorem count_of_match {c : Counter} (h : c.after 1 = c.cmp) :
    c.count.vs = true ∧ c.count.cnt = if c.arm then c.rld else c.cmp := by
  rw [count_eq, if_pos h, ← h]
  exact ⟨(getLsbD_putBit _ 8 true 8 (by decide)).trans (if_pos rfl), rfl⟩

/-! ### Several counts -/

theorem sameSettings_countN (n : Nat) (c : Counter) : c.SameSettings (c.countN n) := by
  induction n generalizing c with
  | zero => exact ⟨rfl, rfl, rfl⟩
  | succ n ih => exact c.sameSettings_count.trans (ih c.count)

/-- What is left to count after the first of several counts. -/
theorem after_count {c : Counter} (h : c.after 1 ≠ c.cmp) (n : Nat) : c.count.after n = c.after (n + 1) := by
  obtain ⟨hcnt, -, -⟩ := count_of_ne h
  rw [after, after, c.sameSettings_count.udm, hcnt, after]
  have hsucc : BitVec.ofNat 28 (n + 1) = BitVec.ofNat 28 1 + BitVec.ofNat 28 n := by
    rw [Nat.add_comm, BitVec.ofNat_add]
  split
  · rw [hsucc, BitVec.sub_sub]
  · rw [hsucc, BitVec.add_assoc]

theorem wrapsIn_count {c : Counter} (h : c.after 1 ≠ c.cmp) (n : Nat) :
    (c.wrapsIn 1 || c.count.wrapsIn n) = c.wrapsIn (n + 1) := by
  obtain ⟨hcnt, -, -⟩ := count_of_ne h
  rw [wrapsIn, wrapsIn, wrapsIn, c.sameSettings_count.udm, hcnt, after, Bool.eq_iff_iff]
  have := c.cnt.isLt
  cases c.udm
  · simp [BitVec.toNat_add]
    omega
  · simp [BitVec.toNat_sub]
    omega

/-- Counts of which none meets TSCCMP (R911). -/
theorem countN_of_ne {n : Nat} {c : Counter} (h : ∀ j < n, c.after (j + 1) ≠ c.cmp) :
    (c.countN n).cnt = c.after n ∧ (c.countN n).vs = c.vs ∧
      (c.countN n).cfg.getLsbD 10 = (c.cfg.getLsbD 10 || c.wrapsIn n) := by
  induction n generalizing c with
  | zero =>
    have := c.cnt.isLt
    refine ⟨?_, rfl, ?_⟩
    · simp [countN, after]
    · simp [countN, wrapsIn]
      omega
  | succ n ih =>
    have hne : c.after 1 ≠ c.cmp := h 0 (Nat.succ_pos n)
    obtain ⟨-, hvs, hos⟩ := count_of_ne hne
    obtain ⟨hcmp, -, -⟩ := c.sameSettings_count
    have hnext : ∀ j < n, c.count.after (j + 1) ≠ c.count.cmp := fun j hj => by
      rw [after_count hne, hcmp]
      exact h (j + 1) (Nat.succ_lt_succ hj)
    obtain ⟨hcnt', hvs', hos'⟩ := ih hnext
    refine ⟨hcnt'.trans (after_count hne n), hvs'.trans hvs, hos'.trans ?_⟩
    rw [hos, Bool.or_assoc, wrapsIn_count hne]

/-! ### The clocks of a step -/

/-- The clocks that make one count (R150). -/
theorem period_eq {c : Counter} (h : c.res.toNat ≤ 5) : c.period = 4 ^ c.res.toNat := by
  unfold period
  generalize c.res = r at h
  revert r
  decide

/-- A counter that operates counts once in every period of its clocks, and keeps the rest (R911). -/
theorem tick_running {c : Counter} (hact : c.act = true) (hres : c.res.toNat ≤ 5) (clocks : Nat) :
    c.tick clocks = { c.countN ((c.phase % 4 ^ c.res.toNat + clocks) / 4 ^ c.res.toNat) with
      phase := (c.phase % 4 ^ c.res.toNat + clocks) % 4 ^ c.res.toNat } := by
  rw [tick, if_pos hact, period_eq hres]

end Counter

/-! ### Waiting in the HALT state -/

/-- A halted machine that no request releases does nothing but count (R594, R910). -/
theorem step_of_waiting {s : State} (hhalt : s.halted = true) (hreset : s.input.reset = false)
    (hwait : (s.dropInput.requests s.input).any Request.releases = false) :
    step s = .next (s.dropInput.tick s.input) := by
  rw [step, State.stepWith, hreset, hwait, State.dropInput_halted, hhalt]
  rfl

/-- The TSI request (R913). -/
theorem TsuRegs.request_iff (t : TsuRegs) :
    t.request = true ↔ t.tsec.getLsbD 0 = false ∧
      ∃ j : Fin 6, (t.counters.get j).exm = true ∧ (t.counters.get j).vs = true := by
  have hany : (t.counters.toList.any fun c => c.exm && c.vs) = true ↔
      ∃ j : Fin 6, (t.counters.get j).exm = true ∧ (t.counters.get j).vs = true := by
    simp only [List.any_eq_true, Bool.and_eq_true, Vector.mem_toList_iff, Vector.mem_iff_getElem]
    constructor
    · rintro ⟨_, ⟨j, hj, rfl⟩, h⟩
      exact ⟨⟨j, hj⟩, h⟩
    · rintro ⟨j, h⟩
      exact ⟨_, ⟨j.val, j.isLt, rfl⟩, h⟩
  rw [request, Bool.and_eq_true, hany, Bool.not_eq_true']

/-! ### Writing TSCCFGn (R150) -/

namespace Counter

/-- TSCCFGn after a write: the plain bits of the lane are written, OS, ES and VS cleared where a 0 is written, and ACT is
fixed to 0 while MPE = 0. -/
def cfgAfter (mpe : Bool) (lane v cfg : Word) : Word :=
  (cfg &&& ~~~(lane &&& tscWritable) ||| v &&& (lane &&& tscWritable)) &&& ~~~(lane &&& tscClearOnly &&& ~~~v) &&&
    if mpe then 0xFFFFFFFF else ~~~1#32

theorem writeCfg_eq (mpe : Bool) (lane v : Word) (c : Counter) :
    c.writeCfg mpe lane v =
      { c with cfg := cfgAfter mpe lane v c.cfg, cnt := if (lane &&& v).getLsbD 3 then c.rld else c.cnt } := by
  unfold writeCfg cfgAfter
  cases mpe <;> cases (lane &&& v).getLsbD 3 <;> simp [reload]

/-- Two writes of parts of one value are one write of both parts. -/
theorem writeCfg_writeCfg (mpe : Bool) (l l' v : Word) (c : Counter) :
    (c.writeCfg mpe l (v &&& l)).writeCfg mpe l' (v &&& l') = c.writeCfg mpe (l ||| l') (v &&& (l ||| l')) := by
  have hcfg : cfgAfter mpe l' (v &&& l') (cfgAfter mpe l (v &&& l) c.cfg) =
      cfgAfter mpe (l ||| l') (v &&& (l ||| l')) c.cfg := by
    apply BitVec.eq_of_getLsbD_eq
    intro i hi
    simp only [cfgAfter, BitVec.getLsbD_and, BitVec.getLsbD_or, BitVec.getLsbD_not, hi, decide_true, Bool.true_and]
    grind
  have hreload : ((l ||| l') &&& (v &&& (l ||| l'))).getLsbD 3 =
      ((l &&& (v &&& l)).getLsbD 3 || (l' &&& (v &&& l')).getLsbD 3) := by
    simp only [BitVec.getLsbD_and, BitVec.getLsbD_or]
    grind
  simp only [writeCfg_eq, hcfg, hreload]
  cases (l &&& (v &&& l)).getLsbD 3 <;> cases (l' &&& (v &&& l')).getLsbD 3 <;> rfl

end Counter

theorem TsuRegs.modify_modify (t : TsuRegs) (k : Fin 6) (f g : Counter → Counter) :
    (t.modify k f).modify k g = t.modify k (g ∘ f) := by
  simp [TsuRegs.modify]

/-- A register of a counter after the counter is changed. -/
theorem TsuRegs.modify_get (t : TsuRegs) (k j : Fin 6) (f : Counter → Counter) :
    (t.modify k f).counters.get j = if j = k then f (t.counters.get k) else t.counters.get j := by
  rw [TsuRegs.modify, dif_pos k.isLt]
  by_cases h : j = k
  · rw [if_pos h, h]
    exact Vector.getElem_set_self _
  · rw [if_neg h]
    exact Vector.getElem_set_ne k.isLt j.isLt fun e => h (Fin.ext e.symm)

theorem TsuRegs.modify_tsec (t : TsuRegs) (k : Fin 6) (f : Counter → Counter) : (t.modify k f).tsec = t.tsec := by
  rw [TsuRegs.modify, dif_pos k.isLt]

/-- The address of byte `j` of TSCCFGn (R149). -/
def tsccfg (k : Fin 6) (j : Nat) : Word := 0xFFFF5020 + BitVec.ofNat 32 (16 * k.val + j)

theorem tsccfg_succ (k : Fin 6) (j : Nat) : tsccfg k j + 1 = tsccfg k (j + 1) := by
  rw [tsccfg, tsccfg, ← Nat.add_assoc, BitVec.ofNat_add _ 1, BitVec.add_assoc]
  rfl

theorem memKind_tsccfg (cfg : Config) (k : Fin 6) {j : Nat} (hj : j < 4) :
    memKind cfg (tsccfg k j) = .tsu (0x20 + 16 * k.val + j) := by
  have hk := k.isLt
  have haddr : (tsccfg k j).toNat = 0xFFFF5020 + 16 * k.val + j := by
    simp [tsccfg, BitVec.toNat_add]
    omega
  have hoff : 0xFFFF5020 + 16 * k.val + j - 0xFFFF5000 = 0x20 + 16 * k.val + j := by omega
  rw [memKind, haddr, hoff, if_pos]
  simp [tsuOffset]
  omega

/-- A bit of the word that has byte `j` set. -/
theorem getLsbD_atByte (b : Byte) (j : Nat) {i : Nat} (hi : i < 32) :
    (atByte b j).getLsbD i = (decide (8 * j ≤ i) && b.getLsbD (i - 8 * j)) := by
  have hlt : i - 8 * j < 32 := by omega
  rw [atByte, BitVec.getLsbD_shiftLeft, BitVec.getLsbD_setWidth]
  by_cases hij : i < 8 * j
  · simp [hi, hij]
  · simp [hi, hij, hlt, Nat.le_of_not_lt hij]

/-- Byte `j` of a word, put back in its place. -/
theorem atByte_shiftRight (v : Word) (j : Nat) : atByte ((v >>> (8 * j)).setWidth 8) j = v &&& atByte 0xFF j := by
  apply BitVec.eq_of_getLsbD_eq
  intro i hi
  rw [BitVec.getLsbD_and, getLsbD_atByte _ _ hi, getLsbD_atByte _ _ hi, show (0xFF : Byte) = BitVec.allOnes 8 from rfl,
    BitVec.getLsbD_allOnes, BitVec.getLsbD_setWidth, BitVec.getLsbD_ushiftRight]
  by_cases hij : 8 * j ≤ i
  · rw [Nat.add_sub_cancel' hij, Bool.and_comm (v.getLsbD i), Bool.and_assoc, Bool.and_left_comm]
  · simp [hij]

/-- The part `lane` of a value is written to TSCCFGn. -/
def State.writeCfg (s : State) (k : Fin 6) (v lane : Word) : State :=
  { s with tsu := s.tsu.modify k (Counter.writeCfg s.mpe lane (v &&& lane)) }

theorem State.writeCfg_writeCfg (s : State) (k : Fin 6) (v l l' : Word) :
    (s.writeCfg k v l).writeCfg k v l' = s.writeCfg k v (l ||| l') := by
  have hmerge : Counter.writeCfg s.mpe l' (v &&& l') ∘ Counter.writeCfg s.mpe l (v &&& l) =
      Counter.writeCfg s.mpe (l ||| l') (v &&& (l ||| l')) :=
    funext fun c => Counter.writeCfg_writeCfg s.mpe l l' v c
  rw [State.writeCfg, State.writeCfg, TsuRegs.modify_modify]
  exact congrArg (fun f => { s with tsu := s.tsu.modify k f }) hmerge

/-- Byte `j` of a word, written to TSCCFGn. -/
theorem State.writeByte_tsccfg (s : State) (k : Fin 6) {j : Nat} (hj : j < 4) (v : Word) :
    s.writeByte (tsccfg k j) ((v >>> (8 * j)).setWidth 8) = .ok () (s.writeCfg k v (atByte 0xFF j)) := by
  have hpos : (0x20 + 16 * k.val + j) % 4 = j := by omega
  have hreg : (0x20 + 16 * k.val + j - 0x20) / 16 = k.val := by omega
  have hfield : (0x20 + 16 * k.val + j) / 4 % 4 = 0 := by omega
  rw [State.writeByte, memKind_tsccfg _ _ hj, State.writeCfg]
  simp only [hpos, atByte_shiftRight, TsuRegs.write, hreg, hfield]
  rw [if_neg (by omega), if_neg (by omega), if_neg (by omega)]

/-- The bits of `n` bytes of a word, from byte `j` on. -/
def byteLanes (j : Nat) : Nat → Word
  | 0 => 0
  | n + 1 => atByte 0xFF j ||| byteLanes (j + 1) n

/-- The last `n` bytes of a word, written to TSCCFGn after the part `l` of it. -/
theorem State.writeBytes_tsccfg_part (s : State) (k : Fin 6) (v l : Word) (j n : Nat) (hjn : j + n ≤ 4) :
    (s.writeCfg k v l).writeBytes (tsccfg k j) (v >>> (8 * j)) n =
      .ok () (s.writeCfg k v (l ||| byteLanes j n)) := by
  induction n generalizing j l with
  | zero => rw [byteLanes, BitVec.ofNat_eq_ofNat, BitVec.or_zero, State.writeBytes]
  | succ n ih =>
    rw [State.writeBytes, State.writeByte_tsccfg _ _ (by omega), Acc.bind_ok, tsccfg_succ, ← BitVec.shiftRight_add,
      byteLanes, ← BitVec.or_assoc, State.writeCfg_writeCfg]
    exact ih (l ||| atByte 0xFF j) (j + 1) (by omega)

/-- A word written to TSCCFGn is written as a whole. -/
theorem State.writeBytes_tsccfg (s : State) (k : Fin 6) (v : Word) :
    s.writeBytes (tsccfg k 0) v 4 = .ok () (s.writeCfg k v 0xFFFFFFFF) := by
  have hfirst := s.writeByte_tsccfg k (j := 0) (by omega) v
  have hrest := s.writeBytes_tsccfg_part k v (atByte 0xFF 0) 1 3 (by omega)
  have hlanes : atByte 0xFF 0 ||| byteLanes 1 3 = 0xFFFFFFFF#32 := by decide
  rw [hlanes] at hrest
  rw [Nat.mul_zero, BitVec.ushiftRight_zero] at hfirst
  rw [State.writeBytes, hfirst, Acc.bind_ok, tsccfg_succ]
  exact hrest

/-- A write of the whole of TSCCFGn (R150, R914). -/
theorem Counter.writeCfg_word (mpe : Bool) (v : Word) (c : Counter) :
    c.writeCfg mpe 0xFFFFFFFF (v &&& 0xFFFFFFFF) = { c with
      cfg := (v &&& 0x07370007 ||| c.cfg &&& v &&& 0x700 ||| c.cfg &&& ~~~0x07370707#32) &&&
        (if mpe then 0xFFFFFFFF else ~~~1#32)
      cnt := if v.getLsbD 3 then c.rld else c.cnt } := by
  have hone (w : Word) : (0xFFFFFFFF : Word) &&& w = w := BitVec.allOnes_and
  have hmask : 0x07370707#32 = tscWritable ||| tscClearOnly := rfl
  have hcfg : (c.cfg &&& ~~~tscWritable ||| v &&& tscWritable) &&& ~~~(tscClearOnly &&& ~~~v) =
      v &&& tscWritable ||| c.cfg &&& v &&& tscClearOnly ||| c.cfg &&& ~~~(tscWritable ||| tscClearOnly) := by
    apply BitVec.eq_of_getLsbD_eq
    intro i hi
    simp only [BitVec.getLsbD_and, BitVec.getLsbD_or, BitVec.getLsbD_not, hi, decide_true, Bool.true_and]
    grind
  rw [show v &&& 0xFFFFFFFF = v from and_fullWord v, writeCfg_eq, cfgAfter, hone, hone, hone, hcfg, hmask]
  rfl

/-- A store that is permitted and not stopped writes its bytes. -/
theorem State.store_of_not_stopped {s : State} {a v : Word} {n : Nat} {sp : Bool} (hp : s.permits a n true sp = true)
    (h : ¬s.Stopped a n true sp) : s.store a v n sp = s.writeBytes a v n := by
  rw [State.store, if_pos hp, State.performWrite, State.judge_of_not_stopped hp h]

/-- Settles O47: a waiting step only ticks the counters; the request is that of R913; the four bytes of a store to TSCCFGn
are one write of it. -/
theorem counterCounts : Obligations.CounterCounts := by
  intro s k c
  refine ⟨?_, s.tsu.request_iff, ?_⟩
  · intro hhalt hreset hwait clocks period n after
    refine ⟨_, step_of_waiting hhalt hreset hwait, ?_⟩
    have htick : (s.dropInput.tick s.input).tsu.counters.get k = c.tick clocks := State.tick_counter _ _ k
    rw [htick]
    refine ⟨Counter.tick_stopped clocks, fun hact hres => ?_⟩
    rw [Counter.tick_running hact hres]
    obtain ⟨hcmp, hrld, hcfg⟩ := c.sameSettings_countN n
    exact ⟨rfl, hcmp, hrld, hcfg, fun hne => Counter.countN_of_ne hne, fun hone hmatch => by
      rw [show (c.phase % period + clocks) / period = 1 from hone]
      exact Counter.count_of_match hmatch⟩
  · intro r1 r2 d15 a v ha hp hns
    have hbase : s.based r1 (sext (even d15)) = a := s.based_even r1 d15
    have haddr : a = tsccfg k 0 := ha
    refine ⟨_, by rw [exec, execStW, State.storeFrom, hbase, State.store_of_not_stopped hp hns, haddr,
      State.writeBytes_tsccfg, Acc.finish_ok], ?_⟩
    refine ⟨?_, fun j hj => ?_, TsuRegs.modify_tsec _ _ _, rfl, fun _ _ => State.reg_congr rfl _, rfl, rfl, rfl, rfl, rfl,
      rfl, rfl, rfl, rfl, rfl, rfl⟩
    · rw [← Counter.writeCfg_word]
      exact (s.tsu.modify_get k k _).trans (if_pos rfl)
    · exact (s.tsu.modify_get k j _).trans (if_neg hj)

end Sys2Proof.Machine
end

section
/-! PROOFS. Memory stays in its canonical form (O13); DI, EI, HALT and the instructions that only move on (O43). -/
namespace Sys2Proof.Machine

/-! ### The invariant of O13 -/

/-- Memory is in its canonical form. -/
def State.MemCanonical (s : State) : Prop := s.mem.wf = true

theorem State.MemCanonical.of_mem {s t : State} (h : s.MemCanonical) (hmem : t.mem = s.mem) : t.MemCanonical := by
  rwa [State.MemCanonical, hmem]

theorem State.MemCanonical.writeByte {s : State} (h : s.MemCanonical) (a : Word) (b : Byte) :
    (s.writeByte a b).Keeps State.MemCanonical := by
  cases hx : s.writeByte a b with
  | ok u t =>
    obtain ⟨m, ts, p, rfl, hm⟩ := State.writeByte_ok hx
    exact hm h
  | trap t => exact absurd hx (State.writeByte_not_trap _ _ _ _)
  | refused r => trivial

theorem State.MemCanonical.loadSys {s : State} (h : s.MemCanonical) (n : BitVec 5) (v : Word) :
    (s.loadSys n v).MemCanonical := by
  obtain ⟨m, p, w, ts, f, hs⟩ := s.loadSys_frame n v
  exact h.of_mem (by rw [hs])

/-- A byte store is the one operation that changes memory. -/
theorem memCanonical_stepKept : StepKept State.MemCanonical where
  regs _ h := h
  setPc _ h := h
  flags _ h := h
  free _ h := h
  fpu _ h := h
  ppu _ h := h
  halted _ h := h
  writeByte a b h := h.writeByte a b
  violation _ _ h := h
  enter e ret h := h.of_mem (State.enter_mem _ e ret)
  link _ h := h
  putId _ h := h
  environment _ _ h := h
  reports _ h := h
  resetFrom h := h
  tick _ h := h
  tsi h := h
  putPsw _ h := h
  tsuLeave _ h := h
  loadSys n v h := h.loadSys n v

/-- Settles O13: the canonical form is kept by every operation of a step. -/
theorem memoryStaysCanonical : Obligations.MemoryStaysCanonical := by
  intro s t hs hstep
  exact (memCanonical_stepKept.step hs).of_eq hstep

/-! ### Control instructions -/

/-- An instruction that only moves on (R34). -/
theorem gives_advance {i : Instr} {s : State} {n : Nat} (hexec : exec i s = .next (s.advance n)) :
    Gives i s fun t => Falls n s t ∧ OnlyRegs [] 0 s t :=
  ⟨_, hexec, rfl, fun r _ => s.reg_advance n r, rfl, fun _ => rfl, ⟨rfl, rfl, rfl, rfl⟩, rfl,
    ⟨rfl, rfl, rfl, rfl, rfl⟩, rfl⟩

/-- An instruction that writes PSW as a whole and moves on changes nothing else but the counters (R56, R916). -/
theorem gives_putPsw {i : Instr} {s : State} {v : Word} {n : Nat}
    (hexec : exec i s = .next ((s.putPsw v).advance n)) :
    Gives i s fun t => t.psw = v &&& s.pswAllowed ∧ Falls n s t ∧ t.main = s.main ∧ t.prot = s.prot ∧ KeepsData s t :=
  ⟨_, hexec, s.putPsw_psw v, rfl, rfl, rfl, fun r _ => by rw [State.reg_advance, State.reg_putPsw], fun _ => rfl, rfl,
    rfl, ⟨rfl, rfl, rfl, rfl, rfl⟩⟩

/-- Settles O43: four instructions only move on, DI and EI write PSW with ID set and clear, HALT moves on halted. -/
theorem controlInstructions : Obligations.ControlInstructions := by
  intro s
  exact ⟨gives_advance rfl, gives_advance rfl, gives_advance rfl, gives_advance rfl, gives_putPsw rfl, gives_putPsw rfl,
    _, rfl, rfl, rfl, rfl, rfl, rfl, rfl, rfl, rfl, rfl, rfl⟩

end Sys2Proof.Machine
end

section
/-! PROOFS. Loads and stores that reach memory: the bits of the bytes at an address, what a store leaves there (O19, O33),
and the datum that a load extends (O32). -/
namespace Sys2Proof.Machine

/-! ### The bytes at an address (R225) -/

/-- Bit `j` of the bytes at an address is bit `j % 8` of byte `j / 8`. -/
theorem State.getLsbD_bytesAt (s : State) (a : Word) (n : Nat) {j : Nat} (hj : j < 32) :
    (s.bytesAt a n).getLsbD j =
      (decide (j < 8 * n) && (s.mem.read (a + BitVec.ofNat 32 (j / 8)).toNat).getLsbD (j % 8)) := by
  induction n generalizing a j with
  | zero => simp [State.bytesAt]
  | succ n ih =>
    rw [State.bytesAt, BitVec.getLsbD_or, BitVec.getLsbD_shiftLeft, BitVec.getLsbD_setWidth]
    by_cases h8 : j < 8
    · have hdiv : j / 8 = 0 := by omega
      have hmod : j % 8 = j := by omega
      have hlt : j < 8 * (n + 1) := by omega
      simp [h8, hdiv, hmod, hlt, hj]
    · have hhigh : (s.mem.read a.toNat).getLsbD j = false := BitVec.getLsbD_of_ge _ _ (by omega)
      have hdiv : j / 8 = (j - 8) / 8 + 1 := by omega
      have hmod : (j - 8) % 8 = j % 8 := by omega
      have hlt : j - 8 < 8 * n ↔ j < 8 * (n + 1) := by omega
      have haddr : a + 1 + BitVec.ofNat 32 ((j - 8) / 8) = a + BitVec.ofNat 32 (j / 8) := by
        rw [hdiv, BitVec.ofNat_add, BitVec.add_assoc, BitVec.add_comm 1]
        rfl
      rw [ih (a + 1) (by omega : j - 8 < 32), haddr, hmod, hhigh]
      simp [h8, hj, hlt]

theorem getLsbD_lowBytes (w : Word) (n : Nat) {j : Nat} (hj : j < 32) :
    (lowBytes w n).getLsbD j = (decide (j < 8 * n) && w.getLsbD j) := by
  rw [lowBytes, BitVec.getLsbD_and, BitVec.getLsbD_ofNat, Nat.testBit_two_pow_sub_one]
  simp [hj, Bool.and_comm]

/-- The `n` bytes at an address have no bits above their own. -/
theorem State.lowBytes_bytesAt (s : State) (a : Word) (n : Nat) : lowBytes (s.bytesAt a n) n = s.bytesAt a n := by
  apply BitVec.eq_of_getLsbD_eq
  intro j hj
  rw [getLsbD_lowBytes _ _ hj, State.getLsbD_bytesAt _ _ _ hj]
  simp

theorem zextB_eq (w : Word) : zextB w = lowBytes w 1 := by
  apply BitVec.eq_of_getLsbD_eq
  intro j hj
  rw [getLsbD_lowBytes _ _ hj]
  simp [zextB, hj]

theorem zextH_eq (w : Word) : zextH w = lowBytes w 2 := by
  apply BitVec.eq_of_getLsbD_eq
  intro j hj
  rw [getLsbD_lowBytes _ _ hj]
  simp [zextH, hj]

/-- Zero extension does nothing to a byte that was read. -/
theorem State.zextB_bytesAt (s : State) (a : Word) : zextB (s.bytesAt a 1) = s.bytesAt a 1 := by
  rw [zextB_eq, State.lowBytes_bytesAt]

/-- Zero extension does nothing to a halfword that was read. -/
theorem State.zextH_bytesAt (s : State) (a : Word) : zextH (s.bytesAt a 2) = s.bytesAt a 2 := by
  rw [zextH_eq, State.lowBytes_bytesAt]

/-! ### What a store leaves in memory -/

/-- The state after the low `n` bytes of a word are stored at an address (R225). -/
def State.stored (s : State) (a v : Word) (n : Nat) : State := { s with mem := s.mem.storeWord a v n }

/-- Byte `k` of a word, as a store puts it in memory. -/
theorem byteOf_eq (w : Word) (k : Nat) : byteOf w k = (w >>> (8 * k)).setWidth 8 := by
  apply BitVec.eq_of_getLsbD_eq
  intro j hj
  simp [byteOf, hj]

theorem State.read_stored (s : State) (a v : Word) {n k : Nat} (hk : k < n) (hn : n ≤ 4) :
    (s.stored a v n).mem.read (a + BitVec.ofNat 32 k).toNat = byteOf v k :=
  (Memory.read_storeWord s.mem a v n k hk hn).trans (byteOf_eq v k).symm

theorem State.sameMemBut_stored (s : State) (a v : Word) (n : Nat) : SameMemBut a n s (s.stored a v n) :=
  fun b hb => Memory.read_storeWord_of_ne s.mem a v n b hb

/-- The bytes at an address after a store there (R225). -/
theorem State.bytesAt_stored (s : State) (a v : Word) {n : Nat} (hn : n ≤ 4) :
    (s.stored a v n).bytesAt a n = lowBytes v n := by
  apply BitVec.eq_of_getLsbD_eq
  intro j hj
  rw [State.getLsbD_bytesAt _ _ _ hj, getLsbD_lowBytes _ _ hj]
  by_cases hjn : j < 8 * n
  · rw [State.read_stored s a v (by omega) hn, byteOf, BitVec.getLsbD_extractLsb', Nat.div_add_mod]
    simp [Nat.mod_lt]
  · simp [hjn]

/-- A permitted access goes ahead exactly if it is not stopped. -/
theorem State.judge_iff {s : State} {a : Word} {n : Nat} {w sp : Bool} (hp : s.permits a n w sp = true) :
    (s.judge a n w).1 = true ↔ ¬s.Stopped a n w sp := by
  by_cases h : s.Stopped a n w sp
  · simp [State.judge_of_stopped h, h]
  · simp [State.judge_of_not_stopped hp h, h]

/-- What memory holds has no part in where an access completes. -/
theorem State.reaches_stored {s : State} {a : Word} {n : Nat} {w sp : Bool} (h : s.reaches a n w sp) (a' v : Word)
    (n' : Nat) : (s.stored a' v n').reaches a n w sp := by
  obtain ⟨hperm, hjudge, hram⟩ := h
  have hperm' : (s.stored a' v n').permits a n w sp = true := hperm
  have hgoes : ¬(s.stored a' v n').Stopped a n w sp := (State.judge_iff hperm).1 hjudge
  exact ⟨hperm', (State.judge_iff hperm').2 hgoes, hram⟩

/-- Settles O19: the store and the load both reach memory, and the bytes there are those of the value. -/
theorem storeThenLoad : Obligations.StoreThenLoad := by
  intro s a v n sp hn hw hr
  have hload : (s.stored a v n).load a n sp = .ok (lowBytes v n) (s.stored a v n) := by
    rw [State.load_reaches (State.reaches_stored hr a v n), State.bytesAt_stored s a v (by omega)]
  exact ⟨s.stored a v n, State.store_reaches hw, hload, s.sameMemBut_stored a v n, rfl, rfl⟩

/-! ### Load and store instructions (R366) -/

section
variable {i : Instr} {s : State} {a a' : Word} {n len : Nat} {sp : Bool}

/-- An instruction that loads from `a'` with the extension `ext'`, where these are `a` and `ext` by another name. -/
theorem loads {ext ext' : Word → Word} {dst : Reg} (hexec : exec i s = s.loadInto a' n sp ext' dst len) (ha : a' = a)
    (hext : ext' (s.bytesAt a n) = ext (s.bytesAt a n)) : Loads i s a n sp ext dst len := by
  subst ha
  intro hreach
  rw [State.loadInto, State.loadAs_reaches hreach, Acc.finish_ok, hext] at hexec
  exact ⟨_, hexec, s.holds_move _ _ _, s.falls_move _ _ _, s.onlyRegs_move _ _ _⟩

/-- An instruction that stores to `a'`, where this is `a` by another name. -/
theorem stores {v : Word} (hexec : exec i s = s.storeFrom a' v n sp len) (ha : a' = a) (hn : n ≤ 4) :
    Stores i s a n sp v len := by
  subst ha
  intro hreach
  rw [State.storeFrom, State.store_reaches hreach, Acc.finish_ok] at hexec
  exact ⟨_, hexec, fun k hk => s.read_stored a' v hk hn, rfl, fun r _ => State.reg_congr rfl r, rfl,
    s.sameMemBut_stored a' v n, ⟨rfl, rfl, rfl, rfl⟩, rfl, ⟨rfl, rfl, rfl, rfl, rfl⟩, rfl⟩

end

/-- Settles O32: each load is `State.loadInto` at its address, and the bytes that are read are already zero-extended. -/
theorem loadInstructions : Obligations.LoadInstructions := by
  intro s r1 r2 d16 d15 d23 d22 d7 d6 d4
  exact ⟨loads rfl rfl rfl, loads rfl rfl (s.zextB_bytesAt _),
    loads rfl (s.based_even r1 d15) rfl, loads rfl (s.based_even r1 d15) (s.zextH_bytesAt _),
    loads rfl (s.based_even r1 d15) rfl,
    loads rfl rfl rfl, loads rfl rfl (s.zextB_bytesAt _),
    loads rfl (s.based_even r1 d22) rfl, loads rfl (s.based_even r1 d22) (s.zextH_bytesAt _),
    loads rfl (s.based_even r1 d22) rfl,
    loads rfl (s.epBased_zext d7) rfl, loads rfl (s.epBased_zext d4) (s.zextB_bytesAt _),
    loads rfl (s.epBased_even d7) rfl, loads rfl (s.epBased_even d4) (s.zextH_bytesAt _),
    loads rfl (s.epBased_quad d6) rfl⟩

/-- Settles O33: each store is `State.storeFrom` at its address. -/
theorem storeInstructions : Obligations.StoreInstructions := by
  intro s r1 r2 d16 d15 d23 d22 d7 d6
  exact ⟨stores rfl rfl (by decide), stores rfl rfl (by decide),
    stores rfl (s.based_even r1 d15) (by decide), stores rfl (s.based_even r1 d22) (by decide),
    stores rfl (s.based_even r1 d15) (by decide), stores rfl (s.based_even r1 d22) (by decide),
    stores rfl (s.epBased_zext d7) (by decide), stores rfl (s.epBased_even d7) (by decide),
    stores rfl (s.epBased_quad d6) (by decide)⟩

end Sys2Proof.Machine
end

section
/-! PROOFS. What a fetch reads decodes as the bytes in memory do: halfwords beyond the length of an instruction are not
read (R287), and what an encoding is as bytes (O7). -/
namespace Sys2Proof

/-! ### The length by the first two halfwords (R287) -/

/-- The length of a frame or long-displacement instruction, which bits 4 to 0 of its second halfword decide. -/
def frameLength (low : BitVec 5) : Nat := instrLength (hw 0 0b111100 0) (hw 0 0 low)

section
variable {h1 : Half} (h2 : Half)

theorem instrLength_jump32 (hop : mid6 h1 = 0b010111#6) (hr : hi5 h1 = 0) : instrLength h1 h2 = 6 := by
  simp [instrLength, hop, hr]

theorem instrLength_wide (hop : mid6 h1 = 0b110001#6 ∨ mid6 h1 = 0b110111#6) (hr : hi5 h1 = 0) :
    instrLength h1 h2 = 6 := by
  rcases hop with hop | hop <;> simp [instrLength, hop, hr]

theorem instrLength_frame {h2 : Half} (hop : mid6 h1 = 0b111100#6 ∨ mid6 h1 = 0b111101#6) (hr : hi5 h1 = 0)
    (hb : lsb1 h2 = 1) : instrLength h1 h2 = frameLength (lo5 h2) := by
  have hlow : (lo5 h2).extractLsb' 0 1 = 1 := (extract_extract h2 (by decide)).trans hb
  rcases hop with hop | hop <;> simp [instrLength, frameLength, hop, hr, hb, hlow]

end

/-! ### Halfwords beyond the length (R288) -/

section
variable {r R : BitVec 5} {op : BitVec 6} {h2 h3 h4 h2' h3' h4' : Half}

/-- An opcode below 011000 reads a further halfword only in the two 48-bit jumps (R301). -/
theorem decodeShort_congr (h : op = 0b010111#6 → r = 0 → h2 = h2' ∧ h3 = h3') :
    decodeShort r op R h2 h3 = decodeShort r op R h2' h3' := by
  by_cases hjump : op = 0b010111#6 ∧ r = 0
  · obtain ⟨hop, hr⟩ := hjump
    obtain ⟨rfl, rfl⟩ := h hop hr
    rfl
  · unfold decodeShort
    split
    case h_24 =>
      have hr : r ≠ 0 := fun hr => hjump ⟨rfl, hr⟩
      rw [if_pos hr, if_pos hr]
    all_goals rfl

/-- Of the frame and long-displacement instructions those of 4 bytes read no further halfword, and only that of 8 bytes
reads the fourth. -/
theorem decodeFrame_congr {i : BitVec 1} (e3 : 4 < frameLength (lo5 h2) → h3 = h3')
    (e4 : 6 < frameLength (lo5 h2) → h4 = h4') : decodeFrame i R h2 h3 h4 = decodeFrame i R h2 h3' h4' := by
  unfold decodeFrame
  dsimp only
  split
  case h_1 | h_2 | h_13 => rfl
  case h_5 hlow =>
    rw [hlow] at e3 e4
    rw [e3 (by decide), e4 (by decide)]
  all_goals
    rename_i hlow
    rw [hlow] at e3
    rw [e3 (by decide)]

/-- The 32-bit classes read a third halfword only in MOV, JMP and the frame instructions (R301). -/
theorem decodeLong_congr (ewide : op = 0b110001#6 ∨ op = 0b110111#6 → r = 0 → h3 = h3')
    (eframe : op = 0b111100#6 ∨ op = 0b111101#6 → r = 0 → lsb1 h2 = 1 →
      (4 < frameLength (lo5 h2) → h3 = h3') ∧ (6 < frameLength (lo5 h2) → h4 = h4')) :
    decodeLong r op R h2 h3 h4 = decodeLong r op R h2 h3' h4' := by
  have hframe (i : BitVec 1) (hop : op = 0b111100#6 ∨ op = 0b111101#6) :
      decodeLong.decodeJumpOrLoad r i R h2 h3 h4 = decodeLong.decodeJumpOrLoad r i R h2 h3' h4' := by
    unfold decodeLong.decodeJumpOrLoad
    split
    · rfl
    · rename_i hb
      split
      · rename_i hr
        obtain ⟨e3, e4⟩ := eframe hop hr ((BitVec.eq_zero_or_eq_one _).resolve_left hb)
        exact decodeFrame_congr e3 e4
      · rfl
  unfold decodeLong
  split
  case h_2 =>
    split
    · rename_i hr
      rw [ewide (.inl rfl) hr]
    · rfl
  case h_8 =>
    split
    · rfl
    · rename_i hr
      rw [ewide (.inr rfl) (not_not.1 hr)]
  case h_13 => exact hframe 0 (.inl rfl)
  case h_14 => exact hframe 1 (.inr rfl)
  all_goals rfl

end

/-- Decoding reads the second halfword only where the length depends on it, and no halfword beyond the length. -/
theorem decodeHalves_congr {h1 h2 h3 h4 h2' h3' h4' : Half} (e2 : needsSecond h1 = true → h2 = h2')
    (e3 : needsSecond h1 = true → 4 < instrLength h1 h2 → h3 = h3')
    (e4 : needsSecond h1 = true → 6 < instrLength h1 h2 → h4 = h4') :
    decodeHalves h1 h2 h3 h4 = decodeHalves h1 h2' h3' h4' := by
  unfold decodeHalves
  dsimp only
  split
  · refine decodeShort_congr fun hop hr => ?_
    have hsecond : needsSecond h1 = true := by simp [needsSecond, hop, hr]
    exact ⟨e2 hsecond, e3 hsecond (by rw [instrLength_jump32 h2 hop hr]; decide)⟩
  · split
    · rfl
    · rename_i hlow
      have hsecond : needsSecond h1 = true := by simp [needsSecond, BitVec.not_lt.1 hlow]
      obtain rfl := e2 hsecond
      refine decodeLong_congr (fun hop hr => ?_) fun hop hr hb => ?_
      · exact e3 hsecond (by rw [instrLength_wide h2 hop hr]; decide)
      · rw [← instrLength_frame hop hr hb]
        exact ⟨e3 hsecond, e4 hsecond⟩

/-! ### An encoding as bytes (R225) -/

/-- The halfwords of the bytes of halfwords are those halfwords. -/
theorem halvesOfBytes_bytes (l : List Half) : halvesOfBytes (l.flatMap bytesOfHalf) = l := by
  induction l with
  | nil => rfl
  | cons h l ih =>
    calc halvesOfBytes ((h :: l).flatMap bytesOfHalf)
        = halfOfBytes (h.extractLsb' 0 8) (h.extractLsb' 8 8) :: halvesOfBytes (l.flatMap bytesOfHalf) := rfl
      _ = h :: l := by rw [halfOfBytes_bytes, ih]

/-- Where the two bytes of halfword `j` lie. -/
theorem getElem?_bytes (l : List Half) (j : Nat) :
    (l.flatMap bytesOfHalf)[2 * j]? = l[j]?.map (·.extractLsb' 0 8) ∧
      (l.flatMap bytesOfHalf)[2 * j + 1]? = l[j]?.map (·.extractLsb' 8 8) := by
  induction l generalizing j with
  | nil => simp
  | cons h l ih =>
    cases j with
    | zero => exact ⟨rfl, rfl⟩
    | succ j => exact ih j

/-- What decoding the bytes of halfwords says: they hold the whole instruction that their first two begin, and decode to
it. -/
theorem decode_bytes {l : List Half} {i : Instr} (h : decode (l.flatMap bytesOfHalf) = .ok i) :
    ∃ h1 rest, l = h1 :: rest ∧ (needsSecond h1 = true → rest ≠ []) ∧
      instrLength h1 (rest.getD 0 0) ≤ 2 * l.length ∧
      decodeHalves h1 (rest.getD 0 0) (rest.getD 1 0) (rest.getD 2 0) = .ok i := by
  rw [decode, halvesOfBytes_bytes] at h
  cases l with
  | nil => cases h
  | cons h1 rest =>
    dsimp only at h
    split at h
    · cases h
    · rename_i hsecond
      split at h
      · cases h
      · rename_i hlength
        exact ⟨h1, rest, rfl, fun hs hnil => hsecond (by simp [hs, hnil]), not_lt.1 hlength, h⟩

namespace Machine

/-! ### Fetching from memory (R226, R872) -/

/-- Memory holds the halfwords from the program counter on, and each may be executed. -/
def State.HoldsHalves (s : State) (l : List Half) : Prop :=
  ∀ j (hj : j < l.length), ∀ f : Half → Fetched, s.fetchHalf (2 * j) f = f l[j]

theorem State.fetchByte_ram {s : State} {a : Word} (h : memKind s.cfg a = .ram) (f : Byte → Fetched) :
    s.fetchByte a f = f (s.mem.read a.toNat) := by
  rw [State.fetchByte, h]

/-- A halfword whose two bytes lie in memory and which may be executed is fetched. -/
theorem State.fetchHalf_ram {s : State} {k : Nat} (hperm : s.permitsFetch (s.fetchAddr k) = true)
    (hlo : memKind s.cfg (s.fetchAddr k) = .ram) (hhi : memKind s.cfg (s.fetchAddr (k + 1)) = .ram)
    (f : Half → Fetched) :
    s.fetchHalf k f =
      f (halfOfBytes (s.mem.read (s.fetchAddr k).toNat) (s.mem.read (s.fetchAddr (k + 1)).toNat)) := by
  rw [State.fetchHalf, if_pos hperm, State.fetchByte_ram hlo, State.fetchByte_ram hhi]

/-- The bytes of executable halfwords in memory are those halfwords to a fetch. -/
theorem State.holdsHalves_of_bytes {s : State} {l : List Half}
    (hbytes : ∀ k < 2 * l.length, memKind s.cfg (s.fetchAddr k) = .ram ∧
      some (s.mem.read (s.fetchAddr k).toNat) = (l.flatMap bytesOfHalf)[k]?)
    (hperm : ∀ k < l.length, s.permitsFetch (s.fetchAddr (2 * k)) = true) : s.HoldsHalves l := by
  intro j hj f
  obtain ⟨hlo, hlo'⟩ := hbytes (2 * j) (by omega)
  obtain ⟨hhi, hhi'⟩ := hbytes (2 * j + 1) (by omega)
  obtain ⟨heven, hodd⟩ := getElem?_bytes l j
  rw [heven, List.getElem?_eq_getElem hj, Option.map_some, Option.some_inj] at hlo'
  rw [hodd, List.getElem?_eq_getElem hj, Option.map_some, Option.some_inj] at hhi'
  rw [State.fetchHalf_ram (hperm j hj) hlo hhi, hlo', hhi', halfOfBytes_bytes]

/-- Halfword `j` of those that memory holds, where there is one, the first apart. -/
theorem State.HoldsHalves.fetchHalf_rest {s : State} {h1 : Half} {rest : List Half} (h : s.HoldsHalves (h1 :: rest))
    {j : Nat} (hj : j < rest.length) (f : Half → Fetched) : s.fetchHalf (2 * (j + 1)) f = f (rest.getD j 0) := by
  rw [h (j + 1) (Nat.succ_lt_succ hj), List.getElem_cons_succ, List.getD_eq_getElem _ _ hj]

/-- Where memory holds a whole instruction, the halfwords that are fetched decode to it. -/
theorem State.HoldsHalves.fetch {s : State} {h1 : Half} {rest : List Half} {i : Instr}
    (h : s.HoldsHalves (h1 :: rest)) (hsecond : needsSecond h1 = true → rest ≠ [])
    (hlength : instrLength h1 (rest.getD 0 0) ≤ 2 * (h1 :: rest).length)
    (hdecode : decodeHalves h1 (rest.getD 0 0) (rest.getD 1 0) (rest.getD 2 0) = .ok i) :
    ∃ h2 h3 h4, s.fetch = .halves h1 h2 h3 h4 ∧ decodeHalves h1 h2 h3 h4 = .ok i := by
  rw [List.length_cons] at hlength
  have hfirst (f : Half → Fetched) : s.fetchHalf 0 f = f h1 := h 0 (Nat.zero_lt_succ _) f
  unfold State.fetch
  rw [hfirst]
  cases hs : needsSecond h1 with
  | false =>
    have hnot (p : Prop) (hc : needsSecond h1 = true) : p := by rw [hs] at hc; cases hc
    refine ⟨0, 0, 0, rfl, ?_⟩
    rw [← hdecode]
    exact decodeHalves_congr (hnot _) (hnot _) (hnot _)
  | true =>
    have hrest : 0 < rest.length := List.length_pos_iff.2 (hsecond hs)
    rw [if_pos rfl, h.fetchHalf_rest hrest]
    dsimp only
    split
    · refine ⟨_, _, _, rfl, ?_⟩
      rw [← hdecode]
      exact decodeHalves_congr (fun _ => rfl) (fun _ _ => by omega) (fun _ _ => by omega)
    · rw [h.fetchHalf_rest (j := 1) (by omega)]
      split
      · refine ⟨_, _, _, rfl, ?_⟩
        rw [← hdecode]
        exact decodeHalves_congr (fun _ => rfl) (fun _ _ => rfl) (fun _ _ => by omega)
      · rw [h.fetchHalf_rest (j := 2) (by omega)]
        exact ⟨_, _, _, rfl, hdecode⟩

/-! ### Steps that run an instruction -/

/-- At a boundary with no reset, no request and no access error a running machine runs the instruction that it fetches
(R307, R1005). -/
theorem step_of_fetch {s : State} {h1 h2 h3 h4 : Half} {i : Instr} (hreset : s.input.reset = false)
    (hhalt : s.halted = false) (hchosen : s.dropInput.chosen s.input = none) (hmep : s.input.mep = none)
    (hfetch : s.dropInput.fetch = .halves h1 h2 h3 h4) (hdecode : decodeHalves h1 h2 h3 h4 = .ok i) :
    step s = tickOutcome s.input (exec i s.dropInput) := by
  have hrun : s.dropInput.boundary exec s.input = exec i s.dropInput := by
    simp only [State.boundary, hchosen, State.fetchAndRun, hfetch, hmep, State.runHalves, hdecode]
  rw [step, State.stepWith, ← hrun]
  simp [hreset, hhalt]

/-- Settles O7: the fetch reads the halfwords of the encoding, as many as the instruction has, and they decode to it. -/
theorem stepRunsMemory : Obligations.StepRunsMemory := by
  intro s i _ hdecode hreset hhalt hchosen hmep hbytes hperm
  have hsize : i.size / 2 = (encode i).length := Nat.mul_div_cancel_left _ (by decide)
  have hholds : s.dropInput.HoldsHalves (encode i) :=
    State.holdsHalves_of_bytes (s := s.dropInput) hbytes (hsize ▸ hperm)
  obtain ⟨h1, rest, hl, hsecond, hlength, hhalves⟩ := decode_bytes hdecode
  rw [hl] at hholds hlength
  obtain ⟨h2, h3, h4, hfetch, hdec⟩ := hholds.fetch hsecond hlength hhalves
  exact step_of_fetch hreset hhalt hchosen hmep hfetch hdec

end Machine
end Sys2Proof
end

section
/-! PROOFS. Whatever the decoder accepts meets the side condition of its row and has the length of its first two
halfwords (O5). -/
namespace Sys2Proof

/-- Whatever the decoder gives here meets the side condition of its row and is `n` bytes long. -/
def Sound (n : Nat) (d : Except Reject Instr) : Prop := ∀ i, d = .ok i → i.wellFormed = true ∧ i.size = n

section
variable {n : Nat}

theorem Sound.error {e : Reject} : Sound n (.error e) := nofun

theorem Sound.ok {i : Instr} (hwf : i.wellFormed = true) (hsize : i.size = n) : Sound n (.ok i) := by
  rintro _ ⟨⟩
  exact ⟨hwf, hsize⟩

/-- An instruction whose row excludes one value of a field, where the field has another. -/
theorem Sound.ok_of_ne {i : Instr} {k : Nat} {a b : BitVec k} (hab : a ≠ b) (hwf : i.wellFormed = (a != b))
    (hsize : i.size = n) : Sound n (.ok i) := .ok (hwf.trans (bne_iff_ne.2 hab)) hsize

theorem Sound.ite {c : Prop} [Decidable c] {d e : Except Reject Instr} (hd : c → Sound n d) (he : ¬c → Sound n e) :
    Sound n (if c then d else e) := by
  split
  · exact hd ‹_›
  · exact he ‹_›

end

/-! ### The 16-bit formats and the two 48-bit jumps among them (R300, R301) -/

theorem decodeLoadShort_sound (op4 : BitVec 4) (r : BitVec 5) (d : BitVec 2) (R : BitVec 5) :
    Sound 2 (decodeLoadShort op4 r d R) := by
  unfold decodeLoadShort
  split
  case h_5 => exact .ite (fun _ => .ok rfl rfl) fun _ => .ok rfl rfl
  all_goals exact .ok rfl rfl

/-- JR and JARL with disp32. -/
theorem decodeShort_jump_sound (R : BitVec 5) (h2 h3 : Half) : Sound 6 (decodeShort 0 0b010111 R h2 h3) :=
  .ite (fun _ => .error) fun _ => .ite (fun _ => .ok rfl rfl) fun hR => .ok_of_ne hR rfl rfl

/-- A field that is not 0 and whose high bit is 0 has other bits that are not 0. -/
theorem low4_ne_zero {r : BitVec 5} (hr : r ≠ 0) (hbit : r.extractLsb' 4 1 = 0#1) : r.extractLsb' 0 4 ≠ 0 := by
  revert r
  decide

theorem decodeShort_sound {r R : BitVec 5} {op : BitVec 6} (hjump : ¬(op = 0b010111#6 ∧ r = 0)) (h2 h3 : Half) :
    Sound 2 (decodeShort r op R h2 h3) := by
  unfold decodeShort
  split
  case h_1 =>
    refine .ite (fun hr => .ok_of_ne hr rfl rfl) fun _ => ?_
    split
    case h_5 => exact .error
    all_goals exact .ok rfl rfl
  case h_3 =>
    refine .ite (fun _ => ?_) fun hr => .ite (fun _ => ?_) fun hR => ?_
    · exact .ite (fun _ => .ok rfl rfl) fun hR => .ok_of_ne hR rfl rfl
    · exact .ite (fun hbit => .ok_of_ne (low4_ne_zero hr hbit) rfl rfl) fun _ => .error
    · exact .ok (Bool.and_eq_true_iff.2 ⟨bne_iff_ne.2 hR, bne_iff_ne.2 hr⟩) rfl
  case h_4 =>
    exact .ite (fun _ => .ok rfl rfl) fun hr => .ite (fun _ => .ok_of_ne hr rfl rfl) fun _ => .ok_of_ne hr rfl rfl
  case h_5 | h_6 | h_7 | h_8 | h_17 | h_18 => exact .ite (fun _ => .ok rfl rfl) fun hr => .ok_of_ne hr rfl rfl
  case h_24 => exact .ite (fun hr => .ok_of_ne hr rfl rfl) fun hr => absurd ⟨rfl, not_not.1 hr⟩ hjump
  case h_25 => exact .error
  all_goals exact .ok rfl rfl

/-! ### The frame and long-displacement instructions (R284, R285) -/

theorem decodeFrame_sound (i : BitVec 1) (R : BitVec 5) (h2 h3 h4 : Half) :
    Sound (frameLength (lo5 h2)) (decodeFrame i R h2 h3 h4) := by
  unfold decodeFrame
  dsimp only
  split
  case h_13 => exact .error
  all_goals
    rename_i hlow
    rw [hlow]
  case h_1 | h_2 | h_3 | h_4 | h_5 => exact .ok rfl rfl
  case h_9 | h_11 | h_12 => exact .ite (fun _ => .ok rfl rfl) fun _ => .error
  all_goals exact .ite (fun _ => .ok rfl rfl) fun _ => .ok rfl rfl

/-! ### The extended formats (R302) -/

theorem decodeShift_sound {two three : Instr} (htwo : Sound 4 (.ok two)) (hthree : Sound 4 (.ok three))
    (w low : BitVec 5) : Sound 4 (decodeExtended.decodeShift w low two three) := by
  unfold decodeExtended.decodeShift
  split
  · exact .ite (fun _ => htwo) fun _ => .error
  · exact hthree
  · exact .error

theorem decodePlain_sound {signed unsigned : Instr} (hsigned : Sound 4 (.ok signed))
    (hunsigned : Sound 4 (.ok unsigned)) (low : BitVec 5) :
    Sound 4 (decodeExtended.decodePlain low signed unsigned) := by
  unfold decodeExtended.decodePlain
  split
  · exact hsigned
  · exact hunsigned
  · exact .error

theorem decodeMulImm_sound (top : BitVec 1) (low R r w : BitVec 5) :
    Sound 4 (decodeExtended.decodeMulImm top low R r w) := by
  unfold decodeExtended.decodeMulImm
  split
  · exact .ok rfl rfl
  · exact .ok rfl rfl
  · exact .error

theorem decodeExtended_sound (r R w : BitVec 5) (sub : BitVec 6) (low : BitVec 5) :
    Sound 4 (decodeExtended r R w sub low) := by
  unfold decodeExtended
  split
  case h_1 => exact .ite (fun _ => .ite (fun _ => .ok rfl rfl) fun _ => .ok rfl rfl) fun _ => .error
  case h_4 | h_5 | h_6 => exact decodeShift_sound (.ok rfl rfl) (.ok rfl rfl) _ _
  case h_7 =>
    split
    case h_5 => exact .ok rfl rfl
    case h_6 => exact .error
    all_goals exact .ite (fun _ => .ok rfl rfl) fun _ => .error
  case h_10 =>
    refine .ite (fun _ => ?_) fun _ => .error
    split
    case h_5 => exact .error
    all_goals exact .ok rfl rfl
  case h_11 =>
    refine .ite (fun _ => .error) fun _ => ?_
    split
    case h_4 => exact .error
    all_goals exact .ite (fun _ => .ok rfl rfl) fun _ => .error
  case h_13 | h_16 | h_17 => exact decodePlain_sound (.ok rfl rfl) (.ok rfl rfl) _
  case h_14 | h_15 => exact decodeMulImm_sound _ _ _ _ _
  case h_18 =>
    split
    case h_3 => exact .error
    all_goals exact .ok rfl rfl
  case h_19 | h_20 => exact .ok rfl rfl
  case h_21 | h_22 =>
    refine .ite (fun _ => .error) fun _ => ?_
    split
    case h_5 => exact .error
    all_goals exact .ok rfl rfl
  case h_23 | h_24 => exact .ite (fun _ => .ok rfl rfl) fun hcond => .ok_of_ne hcond rfl rfl
  case h_27 => exact .error
  all_goals exact .ite (fun _ => .ok rfl rfl) fun _ => .error

/-! ### The coprocessor area (R303, R651) -/

/-- The register field that names a pair is the field of that pair. -/
theorem pairField_of_evenPair {r : Reg} {p : Pair} (h : evenPair r = some p) : pairField p = r := by
  revert r p
  decide

theorem pairField_eq_zero {p : Pair} : pairField p = 0 ↔ p = 0 := by
  revert p
  decide

section
variable {r R w : Reg}

theorem fpRR_sound {f : Reg → Reg → Instr} (h : ∀ r w, Sound 4 (.ok (f r w))) : Sound 4 (fpRR r w f) := h r w

theorem fpRP_sound {f : Reg → Pair → Instr} (h : ∀ r w, Sound 4 (.ok (f r w))) : Sound 4 (fpRP r w f) := by
  unfold fpRP
  split
  · exact h _ _
  · exact .error

theorem fpPR_sound {f : Pair → Reg → Instr} (h : ∀ r w, Sound 4 (.ok (f r w))) : Sound 4 (fpPR r w f) := by
  unfold fpPR
  split
  · exact h _ _
  · exact .error

theorem fpPP_sound {f : Pair → Pair → Instr} (h : ∀ r w, Sound 4 (.ok (f r w))) : Sound 4 (fpPP r w f) := by
  unfold fpPP
  split
  · exact h _ _
  · exact .error

/-- Three pairs, of which the last is the one that the field `w` names. -/
theorem fpPPP_sound {f : Pair → Pair → Pair → Instr}
    (h : ∀ R r p, pairField p = w → Sound 4 (.ok (f R r p))) : Sound 4 (fpPPP R r w f) := by
  unfold fpPPP
  split
  · exact h _ _ _ (pairField_of_evenPair ‹evenPair w = _›)
  · exact .error

end

theorem decodeFp_sound (r R w : BitVec 5) (sub : BitVec 6) (low : BitVec 5) : Sound 4 (decodeFp r R w sub low) := by
  unfold decodeFp
  split
  case h_1 =>
    refine .ite (fun _ => .ite (fun _ => ?_) fun hw => ?_) fun _ => .ite (fun _ => .error) fun hw => ?_
    · exact .ite (fun _ => .ok rfl rfl) fun _ => .error
    · exact .ok_of_ne hw rfl rfl
    · exact fpPPP_sound fun _ _ p hp => .ok_of_ne (fun h0 => hw (hp.symm.trans (pairField_eq_zero.2 h0))) rfl rfl
  case h_2 =>
    exact .ite (fun _ => .error) fun _ => .ite (fun _ => .ok rfl rfl) fun _ => fpPP_sound fun _ _ => .ok rfl rfl
  case h_3 =>
    split
    case h_11 => exact .error
    all_goals split
    any_goals exact .error
    any_goals exact fpRR_sound fun _ _ => .ok rfl rfl
    any_goals exact fpRP_sound fun _ _ => .ok rfl rfl
    any_goals exact fpPR_sound fun _ _ => .ok rfl rfl
    all_goals exact fpPP_sound fun _ _ => .ok rfl rfl
  case h_4 =>
    split
    case h_1 | h_2 | h_3 | h_4 | h_5 | h_6 => exact .ok rfl rfl
    case h_13 => exact .error
    all_goals exact fpPPP_sound fun _ _ _ _ => .ok rfl rfl
  case h_13 => exact .error
  all_goals exact .ok rfl rfl

/-! ### The classes from 110000 on (R301) -/

theorem decodeDispose_sound (i : BitVec 1) (R : BitVec 5) (h2 : Half) : Sound 4 (decodeLong.decodeDispose i R h2) :=
  .ite (fun _ => .ok rfl rfl) fun hlow => .ok_of_ne hlow rfl rfl

/-- MOV with imm32 and JMP with disp32. -/
theorem decodeLong_wide_sound {op : BitVec 6} (hop : op = 0b110001#6 ∨ op = 0b110111#6) (R : BitVec 5)
    (h2 h3 h4 : Half) : Sound 6 (decodeLong 0 op R h2 h3 h4) := by
  rcases hop with rfl | rfl
  · exact .ok rfl rfl
  · exact .ite (fun _ => .error) fun _ => .ok rfl rfl

/-- The frame and long-displacement instructions. -/
theorem decodeLong_frame_sound {op : BitVec 6} {h2 : Half} (hop : op = 0b111100#6 ∨ op = 0b111101#6)
    (hb : lsb1 h2 = 1) (R : BitVec 5) (h3 h4 : Half) :
    Sound (frameLength (lo5 h2)) (decodeLong 0 op R h2 h3 h4) := by
  have hjump (i : BitVec 1) : Sound (frameLength (lo5 h2)) (decodeLong.decodeJumpOrLoad 0 i R h2 h3 h4) :=
    .ite (fun h0 => absurd (hb.symm.trans h0) (by decide)) fun _ =>
      .ite (fun _ => decodeFrame_sound i R h2 h3 h4) fun hr => absurd rfl hr
  rcases hop with rfl | rfl
  · exact hjump 0
  · exact hjump 1

/-- All others are 4 bytes long. -/
theorem decodeLong_sound {r : BitVec 5} {op : BitVec 6} {h2 : Half}
    (hwide : ¬((op = 0b110001#6 ∨ op = 0b110111#6) ∧ r = 0))
    (hframe : ¬((op = 0b111100#6 ∨ op = 0b111101#6) ∧ r = 0 ∧ lsb1 h2 = 1)) (R : BitVec 5) (h3 h4 : Half) :
    Sound 4 (decodeLong r op R h2 h3 h4) := by
  have hjump (hop : op = 0b111100#6 ∨ op = 0b111101#6) (i : BitVec 1) :
      Sound 4 (decodeLong.decodeJumpOrLoad r i R h2 h3 h4) :=
    .ite (fun _ => .ite (fun _ => .ok rfl rfl) fun hr => .ok_of_ne hr rfl rfl) fun hb =>
      .ite (fun hr => absurd ⟨hop, hr, (BitVec.eq_zero_or_eq_one _).resolve_left hb⟩ hframe) fun hr =>
        .ok_of_ne hr rfl rfl
  unfold decodeLong
  split
  case h_2 => exact .ite (fun hr => absurd ⟨.inl rfl, hr⟩ hwide) fun hr => .ok_of_ne hr rfl rfl
  case h_3 | h_4 => exact .ite (fun _ => decodeDispose_sound _ _ _) fun hr => .ok_of_ne hr rfl rfl
  case h_8 => exact .ite (fun hr => .ok_of_ne hr rfl rfl) fun hr => absurd ⟨.inr rfl, not_not.1 hr⟩ hwide
  case h_10 | h_12 => exact .ite (fun _ => .ok rfl rfl) fun _ => .ok rfl rfl
  case h_13 => exact hjump (.inl rfl) 0
  case h_14 => exact hjump (.inr rfl) 1
  case h_15 =>
    split
    all_goals exact .ok rfl rfl
  case h_16 =>
    exact .ite (fun _ => .ite (fun _ => .error) fun hr => .ok_of_ne hr rfl rfl) fun _ =>
      .ite (fun _ => decodeExtended_sound _ _ _ _ _) fun _ => decodeFp_sound _ _ _ _ _
  case h_17 => exact .error
  all_goals exact .ok rfl rfl

/-! ### The decoder -/

theorem instrLength_short {h1 : Half} (h2 : Half) (hop : mid6 h1 ≤ 0b101111#6)
    (hjump : ¬(mid6 h1 = 0b010111#6 ∧ hi5 h1 = 0)) : instrLength h1 h2 = 2 :=
  (if_pos hop).trans (if_neg hjump)

theorem instrLength_long {h1 h2 : Half} (hop : ¬mid6 h1 ≤ 0b101111#6)
    (hwide : ¬((mid6 h1 = 0b110001#6 ∨ mid6 h1 = 0b110111#6) ∧ hi5 h1 = 0))
    (hframe : ¬((mid6 h1 = 0b111100#6 ∨ mid6 h1 = 0b111101#6) ∧ hi5 h1 = 0 ∧ lsb1 h2 = 1)) :
    instrLength h1 h2 = 4 :=
  (if_neg hop).trans ((if_neg hwide).trans (if_neg hframe))

/-- What four halfwords decode to, by the class of the first and the length of the class (R287). -/
theorem decodeHalves_sound (h1 h2 h3 h4 : Half) : Sound (instrLength h1 h2) (decodeHalves h1 h2 h3 h4) := by
  refine .ite (fun hshort => ?_) fun hshort => .ite (fun hload => ?_) fun hload => ?_
  · by_cases hjump : mid6 h1 = 0b010111#6 ∧ hi5 h1 = 0
    · obtain ⟨hop, hr⟩ := hjump
      rw [instrLength_jump32 h2 hop hr, hop, hr]
      exact decodeShort_jump_sound _ _ _
    · rw [instrLength_short h2 (by bv_omega) hjump]
      exact decodeShort_sound hjump h2 h3
  · rw [instrLength_short h2 (by bv_omega) (by bv_omega)]
    exact decodeLoadShort_sound _ _ _ _
  · by_cases hwide : (mid6 h1 = 0b110001#6 ∨ mid6 h1 = 0b110111#6) ∧ hi5 h1 = 0
    · obtain ⟨hop, hr⟩ := hwide
      rw [instrLength_wide h2 hop hr, hr]
      exact decodeLong_wide_sound hop _ _ _ _
    · by_cases hframe : (mid6 h1 = 0b111100#6 ∨ mid6 h1 = 0b111101#6) ∧ hi5 h1 = 0 ∧ lsb1 h2 = 1
      · obtain ⟨hop, hr, hb⟩ := hframe
        rw [instrLength_frame hop hr hb, hr]
        exact decodeLong_frame_sound hop hb _ _ _
      · rw [instrLength_long (by bv_omega) hwide hframe]
        exact decodeLong_sound hwide hframe _ _ _

/-- Settles O5, by the class of the first halfword. -/
theorem decodedIsWellFormed : Obligations.DecodedIsWellFormed := decodeHalves_sound

end Sys2Proof
end

section
/-! PROOFS. Decoding the bytes of a well-formed instruction gives it back (O2, O3, O4): the fields that an encoding is
made of, what each class of encodings decodes to, and that an encoding has the length of its first two halfwords. -/
namespace Sys2Proof

/-! ### Fields of fields -/

/-- A value put together again from three parts. -/
theorem parts3 {k l m : Nat} (x : BitVec (m + l + k)) :
    x.extractLsb' (k + l) m ++ x.extractLsb' k l ++ x.extractLsb' 0 k = x := by
  have hhigh : x.extractLsb' (k + l) m ++ x.extractLsb' k l = x.extractLsb' k (m + l) := by
    have := parts (x.extractLsb' k (m + l))
    rwa [extract_extract x (by omega), extract_extract x (by omega)] at this
  rw [hhigh]
  exact parts x

@[simp] theorem fields_1_4 (x : BitVec 1) (y : BitVec 4) :
    (x ++ y : BitVec 5).extractLsb' 4 1 = x ∧ (x ++ y : BitVec 5).extractLsb' 0 4 = y :=
  ⟨append_high x y, append_low x y⟩

@[simp] theorem fields_4_1 (x : BitVec 4) (y : BitVec 1) :
    (x ++ y : BitVec 5).extractLsb' 1 4 = x ∧ (x ++ y : BitVec 5).extractLsb' 0 1 = y :=
  ⟨append_high x y, append_low x y⟩

@[simp] theorem fields_2_3 (x : BitVec 2) (y : BitVec 3) :
    (x ++ y : BitVec 5).extractLsb' 3 2 = x ∧ (x ++ y : BitVec 5).extractLsb' 0 3 = y :=
  ⟨append_high x y, append_low x y⟩

@[simp] theorem fields_3_2 (x : BitVec 3) (y : BitVec 2) :
    (x ++ y : BitVec 5).extractLsb' 2 3 = x ∧ (x ++ y : BitVec 5).extractLsb' 0 2 = y :=
  ⟨append_high x y, append_low x y⟩

@[simp] theorem fields_4_2 (x : BitVec 4) (y : BitVec 2) :
    (x ++ y : BitVec 6).extractLsb' 2 4 = x ∧ (x ++ y : BitVec 6).extractLsb' 0 2 = y :=
  ⟨append_high x y, append_low x y⟩

@[simp] theorem fields_1_3_1 (x : BitVec 1) (y : BitVec 3) (z : BitVec 1) :
    (x ++ y ++ z : BitVec 5).extractLsb' 4 1 = x ∧ (x ++ y ++ z : BitVec 5).extractLsb' 1 3 = y ∧
      (x ++ y ++ z : BitVec 5).extractLsb' 0 1 = z :=
  ⟨(append_extract_high (x ++ y) z (by decide)).trans (append_high x y),
    (append_extract_high (x ++ y) z (by decide)).trans (append_low x y), append_low (x ++ y) z⟩

/-! ### The classes of encodings -/

/-- The instruction that a list of halfwords begins with, read as if zeros followed. -/
def decodeFirst (l : List Half) : Except Reject Instr :=
  decodeHalves (l.getD 0 0) (l.getD 1 0) (l.getD 2 0) (l.getD 3 0)

section
variable {r R w low : BitVec 5} {op sub : BitVec 6} {l : List Half}

theorem decodeFirst_short (hop : op < 0b011000#6 := by decide) :
    decodeFirst (hw r op R :: l) = decodeShort r op R (l.getD 0 0) (l.getD 1 0) := by
  simp [decodeFirst, decodeHalves, hop]

theorem decodeFirst_loadShort {op4 : BitVec 4} {d : BitVec 2} (hmin : 0b0110#4 ≤ op4 := by decide)
    (hmax : op4 < 0b1100#4 := by decide) : decodeFirst (hw r (op4 ++ d) R :: l) = decodeLoadShort op4 r d R := by
  have hop : ¬op4 ++ d < 0b011000#6 ∧ op4 ++ d < 0b110000#6 := by
    revert op4 d
    decide
  simp [decodeFirst, decodeHalves, hop]

theorem decodeFirst_long (hop : 0b110000#6 ≤ op := by decide) :
    decodeFirst (hw r op R :: l) = decodeLong r op R (l.getD 0 0) (l.getD 1 0) (l.getD 2 0) := by
  have hshort : ¬op < 0b011000#6 := BitVec.not_lt.2 (BitVec.le_trans (by decide) hop)
  simp [decodeFirst, decodeHalves, hshort, BitVec.not_lt.2 hop]

/-- CALLT holds bit 5 of its immediate in bit 5 of the halfword. -/
theorem decodeFirst_callt (b : BitVec 1) : decodeFirst (hw 0 (0b01000#5 ++ b) R :: l) = .ok (.callt (b ++ R)) := by
  rcases BitVec.eq_zero_or_eq_one b with rfl | rfl
  · exact (decodeFirst_short).trans rfl
  · exact (decodeFirst_short).trans rfl

theorem decodeFirst_dispose (i : BitVec 1) :
    decodeFirst (hw 0 (0b11001#5 ++ i) R :: l) = decodeLong.decodeDispose i R (l.getD 0 0) := by
  rcases BitVec.eq_zero_or_eq_one i with rfl | rfl
  · exact decodeFirst_long
  · exact decodeFirst_long

theorem decodeFirst_jumpOrLoad (i : BitVec 1) :
    decodeFirst (hw r (0b11110#5 ++ i) R :: l) =
      decodeLong.decodeJumpOrLoad r i R (l.getD 0 0) (l.getD 1 0) (l.getD 2 0) := by
  rcases BitVec.eq_zero_or_eq_one i with rfl | rfl
  · exact decodeFirst_long
  · exact decodeFirst_long

theorem decodeFirst_frame (i : BitVec 1) (hop : 0b11110#5 ++ i = op := by rfl)
    (hlow : low.extractLsb' 0 1 = 1#1 := by decide) :
    decodeFirst (hw 0 op R :: hw w sub low :: l) = decodeFrame i R (hw w sub low) (l.getD 0 0) (l.getD 1 0) := by
  subst hop
  rw [decodeFirst_jumpOrLoad, decodeLong.decodeJumpOrLoad, List.getD_cons_zero, lsb1_hw, hlow]
  exact (if_neg (by decide)).trans (if_pos rfl)

/-- LD.B, LD.BU and ST.B with a 23-bit displacement hold its bit 0 in bit 20 (R285). -/
theorem decodeFirst_byteDisp (b : BitVec 1) (h3 : Half) :
    decodeFirst [hw 0 0b111100 R, hw w sub (b ++ 0b0101#4), h3] = .ok (.ldB23 (h3 ++ sub ++ b) R w) ∧
    decodeFirst [hw 0 0b111101 R, hw w sub (b ++ 0b0101#4), h3] = .ok (.ldBu23 (h3 ++ sub ++ b) R w) ∧
    decodeFirst [hw 0 0b111100 R, hw w sub (b ++ 0b1101#4), h3] = .ok (.stB23 w (h3 ++ sub ++ b) R) := by
  rcases BitVec.eq_zero_or_eq_one b with rfl | rfl
  all_goals
    rw [decodeFirst_frame 0, decodeFirst_frame 1, decodeFirst_frame 0]
    simp [decodeFrame]

theorem decodeFirst_coprocessor (hlow : low.extractLsb' 0 1 = 0#1) :
    decodeFirst (hw r 0b111111 R :: hw w sub low :: l) =
      if sub.extractLsb' 5 1 = 0#1 then decodeExtended r R w sub low else decodeFp r R w sub low := by
  rw [decodeFirst_long, List.getD_cons_zero]
  change ite _ _ _ = _
  rw [lsb1_hw, hlow, if_neg (by decide), mid6_hw, hi5_hw, lo5_hw]

theorem decodeFirst_extended (hsub : sub.extractLsb' 5 1 = 0#1 := by decide)
    (hlow : low.extractLsb' 0 1 = 0#1 := by decide) :
    decodeFirst (hw r 0b111111 R :: hw w sub low :: l) = decodeExtended r R w sub low :=
  (decodeFirst_coprocessor hlow).trans (if_pos hsub)

theorem decodeFirst_fp (hsub : sub.extractLsb' 5 1 = 1#1 := by decide)
    (hlow : low.extractLsb' 0 1 = 0#1 := by decide) :
    decodeFirst (hw r 0b111111 R :: hw w sub low :: l) = decodeFp r R w sub low :=
  (decodeFirst_coprocessor hlow).trans (if_neg (by rw [hsub]; decide))

/-- MUL and MULU with imm9 hold its bits 8 to 5 in the second halfword (R283). -/
theorem decodeFirst_mulImm (b : BitVec 1) (x : BitVec 3) :
    decodeFirst (hw r 0b111111 R :: hw w (0b01001#5 ++ b) (x ++ 0b00#2) :: l) = .ok (.mulImm9 (b ++ x ++ R) r w) ∧
    decodeFirst (hw r 0b111111 R :: hw w (0b01001#5 ++ b) (x ++ 0b10#2) :: l) = .ok (.muluImm9 (b ++ x ++ R) r w) := by
  have hlow (y : BitVec 2) : (x ++ y).extractLsb' 0 1 = y.extractLsb' 0 1 := append_extract_low x y (by decide)
  rcases BitVec.eq_zero_or_eq_one b with rfl | rfl
  all_goals
    rw [decodeFirst_extended (hlow := hlow _), decodeFirst_extended (hlow := hlow _)]
    simp [decodeExtended, decodeExtended.decodeMulImm]

/-- The fused group holds reg4[0] in bit 23 and reg4[4:1] in bits 20 to 17 (R667). -/
theorem decodeFirst_fused (b : BitVec 1) (x : BitVec 4) (sel : BitVec 2) :
    decodeFirst (hw r 0b111111 R :: hw w (0b101#3 ++ b ++ sel) (x ++ 0#1) :: l) =
      match sel with
      | 0b00#2 => .ok (.maddfS R r w (x ++ b))
      | 0b01#2 => .ok (.msubfS R r w (x ++ b))
      | 0b10#2 => .ok (.nmaddfS R r w (x ++ b))
      | _ => .ok (.nmsubfS R r w (x ++ b)) := by
  have hsub : ∀ (b : BitVec 1) (sel : BitVec 2), (0b101#3 ++ b ++ sel).extractLsb' 5 1 = 1#1 := by decide
  have hsel : ∀ sel : BitVec 2, sel = 0b00#2 ∨ sel = 0b01#2 ∨ sel = 0b10#2 ∨ sel = 0b11#2 := by decide
  rw [decodeFirst_fp (hsub b sel) (append_low x 0#1)]
  rcases BitVec.eq_zero_or_eq_one b with rfl | rfl
  all_goals rcases hsel sel with rfl | rfl | rfl | rfl <;> simp [decodeFp]

end

/-! ### Pairs -/

theorem fpRP_pairField (r : Reg) (w : Pair) (f : Reg → Pair → Instr) : fpRP r (pairField w) f = .ok (f r w) := by
  simp [fpRP]

theorem fpPR_pairField (r : Pair) (w : Reg) (f : Pair → Reg → Instr) : fpPR (pairField r) w f = .ok (f r w) := by
  simp [fpPR]

theorem fpPP_pairField (r w : Pair) (f : Pair → Pair → Instr) :
    fpPP (pairField r) (pairField w) f = .ok (f r w) := by
  simp [fpPP]

theorem fpPPP_pairField (R r w : Pair) (f : Pair → Pair → Pair → Instr) :
    fpPPP (pairField R) (pairField r) (pairField w) f = .ok (f R r w) := by
  simp [fpPPP]

/-! ### Every instruction -/

/-- An encoding decodes to its instruction: by the class of its first halfwords, with the operands put together again
from their fields. -/
theorem decodeFirst_encode {i : Instr} (h : i.wellFormed = true) : decodeFirst (encode i) = .ok i := by
  cases i with
  -- the 16-bit formats and the 48-bit jumps among them (R300, R301)
  | nop | synce | syncm | syncp | not | rie | jmp | zxb | sxb | zxh | sxh | or | xor | and | tst | subr | sub | add
  | cmp | addImm5 | cmpImm5 | shrImm5 | sarImm5 | shlImm5 => exact (decodeFirst_short).trans rfl
  | mov | mulhImm5 => exact (decodeFirst_short).trans (if_pos (bne_iff_ne.1 h))
  | satsubr | satsub | satadd | mulh | movImm5 | sataddImm5 =>
    exact (decodeFirst_short).trans (if_neg (bne_iff_ne.1 h))
  | switch | divhReg | sldBu | sldHu =>
    exact (decodeFirst_short).trans (by simp_all [decodeShort, Instr.wellFormed])
  | fetrap vector4 =>
    have hfield : 0#1 ++ vector4 ≠ 0#5 := fun h0 =>
      bne_iff_ne.1 h ((append_low 0#1 vector4).symm.trans (congrArg (·.extractLsb' 0 4) h0))
    exact (decodeFirst_short).trans (by simp [decodeShort, hfield])
  | callt imm6 => exact (decodeFirst_callt _).trans (by rw [parts (k := 5) (l := 1) imm6])
  | jr32 | jarl32 =>
    exact (decodeFirst_short).trans (by simp_all [decodeShort, Instr.wellFormed, parts (k := 15) (l := 16)])
  | sldB | sstB | sldH | sstH =>
    exact (decodeFirst_loadShort).trans (by simp [decodeLoadShort, parts (k := 5) (l := 2)])
  | sldW | sstW => exact (decodeFirst_loadShort).trans (by simp [decodeLoadShort, parts (k := 4) (l := 2)])
  | bcond => exact (decodeFirst_loadShort).trans (by simp [decodeLoadShort, parts3 (k := 1) (l := 2) (m := 5)])
  -- the classes from 110000 on (R301)
  | addi | ori | xori | andi | ldB | stB => exact (decodeFirst_long).trans rfl
  | movea | movhi | satsubi => exact (decodeFirst_long).trans (if_neg (bne_iff_ne.1 h))
  | mulhi => exact (decodeFirst_long).trans (if_pos (bne_iff_ne.1 h))
  | movImm32 => exact (decodeFirst_long).trans (by simp [decodeLong, parts (k := 16) (l := 16)])
  | jmp32 => exact (decodeFirst_long).trans (by simp [decodeLong, parts (k := 15) (l := 16)])
  | ldH | stH | ldW | stW | set1 | not1 | clr1 | tst1 => exact (decodeFirst_long).trans (by simp [decodeLong])
  | ldHu => exact (decodeFirst_long).trans (by simp_all [decodeLong, Instr.wellFormed])
  | dispose | disposeJmp =>
    exact (decodeFirst_dispose _).trans (by simp_all [decodeLong.decodeDispose, Instr.wellFormed, listHalf,
      parts (k := 4) (l := 1), parts3 (k := 1) (l := 6) (m := 5)])
  | jr22 | jarl22 =>
    exact (decodeFirst_jumpOrLoad _).trans (by simp_all [decodeLong.decodeJumpOrLoad, Instr.wellFormed,
      parts3 (k := 15) (l := 5) (m := 1)])
  | ldBu =>
    exact (decodeFirst_jumpOrLoad _).trans (by simp_all [decodeLong.decodeJumpOrLoad, Instr.wellFormed,
      parts (k := 1) (l := 15)])
  -- the frame and long-displacement instructions (R284, R285)
  | prepare | prepareSp | prepareImm16 | prepareImm16Shl | prepareImm32 =>
    exact (decodeFirst_frame _).trans (by simp [decodeFrame, parts (k := 4) (l := 1),
      parts3 (k := 1) (l := 6) (m := 5), parts (k := 16) (l := 16)])
  | ldB23 => exact (decodeFirst_byteDisp _ _).1.trans (by rw [parts3 (k := 1) (l := 6) (m := 16)])
  | ldBu23 => exact (decodeFirst_byteDisp _ _).2.1.trans (by rw [parts3 (k := 1) (l := 6) (m := 16)])
  | stB23 => exact (decodeFirst_byteDisp _ _).2.2.trans (by rw [parts3 (k := 1) (l := 6) (m := 16)])
  | ldH23 | ldW23 | stW23 => exact (decodeFirst_frame 0).trans (by simp [decodeFrame, parts (k := 6) (l := 16)])
  | ldHu23 | stH23 => exact (decodeFirst_frame 1).trans (by simp [decodeFrame, parts (k := 6) (l := 16)])
  -- the extended formats (R302)
  | ldsr | stsr | shr | shr3 | sar | sar3 | shl | shl3 | set1Reg | not1Reg | clr1Reg | tst1Reg | caxi | trap | halt
  | reti | ctret | eiret | feret | di | ei | mul | mulu | divh | divhu | div | divu | divq | divqu | bsw | bsh | hsw
  | hsh | sch0r | sch1r | sch0l | sch1l | satsub3 | satadd3 => exact (decodeFirst_extended).trans rfl
  | setf | rieImm | sasf | syscall =>
    exact (decodeFirst_extended).trans (by simp [decodeExtended, parts (k := 5) (l := 3)])
  | mulImm9 => exact (decodeFirst_mulImm _ _).1.trans (by rw [parts3 (k := 5) (l := 3) (m := 1)])
  | muluImm9 => exact (decodeFirst_mulImm _ _).2.trans (by rw [parts3 (k := 5) (l := 3) (m := 1)])
  | cmov | cmovImm5 => exact (decodeFirst_extended (hlow := append_low _ _)).trans (by simp [decodeExtended])
  | sbf | adf =>
    exact (decodeFirst_extended (hlow := append_low _ _)).trans (by simp_all [decodeExtended, Instr.wellFormed])
  | mac | macu =>
    exact (decodeFirst_extended (hlow := append_low _ _)).trans (by simp [decodeExtended, pairField])
  -- the coprocessor area (R303, R651), by which of the operands are pairs
  | absfS | ceilfSuw | ceilfSw | cvtfSuw | cvtfSw | cvtfUws | cvtfWs | floorfSuw | floorfSw | negfS | recipfS | rsqrtfS
  | sqrtfS | trncfSuw | trncfSw | addfS | divfS | maxfS | minfS | mulfS | subfS => exact (decodeFirst_fp).trans rfl
  | ceilfSl | ceilfSul | cvtfSd | cvtfSl | cvtfSul | cvtfUwd | cvtfWd | floorfSl | floorfSul | trncfSl | trncfSul =>
    exact (decodeFirst_fp).trans (fpRP_pairField _ _ _)
  | ceilfDuw | ceilfDw | cvtfDs | cvtfDuw | cvtfDw | cvtfLs | cvtfUls | floorfDuw | floorfDw | trncfDuw | trncfDw =>
    exact (decodeFirst_fp).trans (fpPR_pairField _ _ _)
  | absfD | ceilfDl | ceilfDul | cvtfDl | cvtfDul | cvtfLd | cvtfUld | floorfDl | floorfDul | negfD | recipfD | rsqrtfD
  | sqrtfD | trncfDl | trncfDul => exact (decodeFirst_fp).trans (fpPP_pairField _ _ _)
  | addfD | divfD | maxfD | minfD | mulfD | subfD => exact (decodeFirst_fp).trans (fpPPP_pairField _ _ _ _)
  | cmovfD _ _ _ reg3 =>
    have hreg3 : pairField reg3 ≠ 0#5 := fun h0 => bne_iff_ne.1 h (pairField_eq_zero.1 h0)
    exact (decodeFirst_fp (hlow := append_low _ _)).trans (by simp [decodeFp, hreg3, fpPPP_pairField])
  | cmovfS => exact (decodeFirst_fp (hlow := append_low _ _)).trans (by simp_all [decodeFp, Instr.wellFormed])
  | cmpfD | cmpfS | trfsr =>
    exact (decodeFirst_fp (hlow := append_low _ _)).trans (by simp [decodeFp, fpPP_pairField])
  | maddfS | msubfS | nmaddfS | nmsubfS =>
    exact (decodeFirst_fused _ _ _).trans (by simp [parts (k := 1) (l := 4)])

/-! ### The bytes of an encoding -/

theorem two_lt_frameLength (low : BitVec 5) : 2 < frameLength low := by
  revert low
  decide

/-- A first halfword whose length depends on the second begins more than a 16-bit instruction (R287). -/
theorem two_lt_instrLength {h1 : Half} (h : needsSecond h1 = true) (h2 : Half) : 2 < instrLength h1 h2 := by
  rcases Bool.or_eq_true_iff.1 h with hlong | hjump
  · have hlong : ¬mid6 h1 ≤ 0b101111#6 := by
      rw [decide_eq_true_iff] at hlong
      bv_omega
    by_cases hwide : (mid6 h1 = 0b110001#6 ∨ mid6 h1 = 0b110111#6) ∧ hi5 h1 = 0
    · rw [instrLength_wide h2 hwide.1 hwide.2]
      decide
    · by_cases hframe : (mid6 h1 = 0b111100#6 ∨ mid6 h1 = 0b111101#6) ∧ hi5 h1 = 0 ∧ lsb1 h2 = 1
      · rw [instrLength_frame hframe.1 hframe.2.1 hframe.2.2]
        exact two_lt_frameLength _
      · rw [instrLength_long hlong hwide hframe]
        decide
  · simp only [Bool.and_eq_true, decide_eq_true_eq] at hjump
    rw [instrLength_jump32 h2 hjump.1 hjump.2]
    decide

/-- Halfwords that are as many as the first two of them say decode as bytes to what they decode to. -/
theorem decode_of_decodeFirst {l : List Half} {i : Instr} (hdecode : decodeFirst l = .ok i)
    (hlength : 2 * l.length = instrLength (l.getD 0 0) (l.getD 1 0)) : decode (l.flatMap bytesOfHalf) = .ok i := by
  rw [decode, halvesOfBytes_bytes]
  cases l with
  | nil => exact absurd hlength (by decide)
  | cons h1 rest =>
    rw [List.getD_cons_zero, List.getD_cons_succ] at hlength
    have hsecond : ¬(needsSecond h1 && rest.isEmpty) = true := by
      intro hs
      obtain ⟨hneeds, hempty⟩ := Bool.and_eq_true_iff.1 hs
      rw [List.isEmpty_iff.1 hempty] at hlength
      exact absurd hlength (two_lt_instrLength hneeds _).ne
    dsimp only
    rw [if_neg hsecond, if_neg (by omega)]
    exact hdecode

/-- The bytes of a well-formed instruction decode to it, whatever its length. -/
theorem decode_encodeBytes {i : Instr} (h : i.wellFormed = true) : decode (encodeBytes i) = .ok i := by
  have hdecode := decodeFirst_encode h
  obtain ⟨-, hsize⟩ := decodeHalves_sound _ _ _ _ i hdecode
  exact decode_of_decodeFirst hdecode hsize

/-- Settles O2: the round trip of `decode_encodeBytes`, for the encodings of one halfword. -/
theorem roundTrip16 : Obligations.RoundTrip16 := fun _ h _ => decode_encodeBytes h

/-- Settles O3: the same for the encodings of two halfwords, the floating-point ones included. -/
theorem roundTrip32 : Obligations.RoundTrip32 := fun _ h _ => decode_encodeBytes h

/-- Settles O4: the same for the encodings of three and four halfwords. -/
theorem roundTripLong : Obligations.RoundTripLong := fun _ h _ => decode_encodeBytes h

end Sys2Proof
end

section
/-! PROOFS. PREPARE and DISPOSE whose accesses reach memory: what a list of stores leaves in memory, what a list of
loads leaves in the registers, and the register list that an encoding holds (O42). -/
namespace Sys2Proof.Machine

/-! ### Word addresses -/

theorem toNat_wordAligned (a : Word) : (wordAligned a).toNat = 4 * (a.toNat / 4) := by
  have hshift : wordAligned a = (a >>> 2) <<< 2 := by
    apply BitVec.eq_of_getLsbD_eq
    intro k hk
    have hmask : (3#32).getLsbD k = decide (k < 2) := by
      rw [BitVec.getLsbD_ofNat, show 3 = 2 ^ 2 - 1 from rfl, Nat.testBit_two_pow_sub_one]
      simp [hk]
    rw [wordAligned, BitVec.getLsbD_and, BitVec.getLsbD_not, hmask, BitVec.getLsbD_shiftLeft,
      BitVec.getLsbD_ushiftRight]
    by_cases h2 : k < 2
    · simp [h2]
    · simp [h2, hk, show 2 + (k - 2) = k by omega]
  rw [hshift, BitVec.toNat_shiftLeft, BitVec.toNat_ushiftRight, Nat.shiftLeft_eq, Nat.shiftRight_eq_div_pow]
  omega

/-- Alignment does not see whole words. -/
theorem wordAligned_sub (a x : Word) : wordAligned (a - 4 * x) = wordAligned a - 4 * x := by
  apply BitVec.eq_of_toNat_eq
  rw [toNat_wordAligned, BitVec.toNat_sub, BitVec.toNat_sub, toNat_wordAligned, BitVec.toNat_mul,
    show (4 : Word).toNat = 4 from rfl]
  omega

/-! ### Memory that a store leaves -/

/-- Two adjoining blocks of bytes, one after the other changed, are one block. -/
theorem SameMemBut.append {s t u : State} {a b : Word} {n k : Nat} (h : SameMemBut b k s t) (h' : SameMemBut a n t u)
    (hb : b = a + BitVec.ofNat 32 n) : SameMemBut a (n + k) s u := by
  intro c hc
  rw [h' c fun j hj => hc j (by omega), h c fun j hj => ?_]
  have := hc (n + j) (by omega)
  rwa [BitVec.ofNat_add, ← BitVec.add_assoc, ← hb] at this

/-- The bytes at an address depend on those bytes alone. -/
theorem State.bytesAt_congr {s t : State} {a : Word} {n : Nat}
    (h : ∀ k < n, t.mem.read (a + BitVec.ofNat 32 k).toNat = s.mem.read (a + BitVec.ofNat 32 k).toNat) :
    t.bytesAt a n = s.bytesAt a n := by
  apply BitVec.eq_of_getLsbD_eq
  intro j hj
  rw [State.getLsbD_bytesAt _ _ _ hj, State.getLsbD_bytesAt _ _ _ hj]
  by_cases hjn : j < 8 * n
  · rw [h (j / 8) (by omega)]
  · simp [hjn]

/-- The bytes after a block that was changed are as before. -/
theorem SameMemBut.bytesAt_after {s t : State} {a : Word} {n k : Nat} (h : SameMemBut a n s t)
    (hsize : n + k ≤ 2 ^ 32) : t.bytesAt (a + BitVec.ofNat 32 n) k = s.bytesAt (a + BitVec.ofNat 32 n) k := by
  refine State.bytesAt_congr fun j hj => h _ fun i hi heq => ?_
  rw [BitVec.add_assoc, ← BitVec.ofNat_add] at heq
  have := congrArg BitVec.toNat (add_left_cancel heq)
  rw [BitVec.toNat_ofNat, BitVec.toNat_ofNat, Nat.mod_eq_of_lt (by omega), Nat.mod_eq_of_lt (by omega)] at this
  omega

/-- A word stored reads as the word. -/
theorem State.bytesAt_stored_word (s : State) (a v : Word) : (s.stored a v 4).bytesAt a 4 = v := by
  rw [State.bytesAt_stored s a v (by decide)]
  exact BitVec.and_allOnes

/-! ### PREPARE's stores -/

/-- Stores that all reach memory leave each register's word below the one before, and change nothing else. -/
theorem State.pushRegs_reaches (s : State) (adr : Word) (rs : List Reg) (hlen : rs.length < 2 ^ 30)
    (hreach : ∀ k < rs.length, s.reaches (wordAligned (adr - 4 * BitVec.ofNat 32 (k + 1))) 4 true true) :
    ∃ m, s.pushRegs adr rs = .ok (adr - 4 * BitVec.ofNat 32 rs.length) { s with mem := m } ∧
      (∀ k (h : k < rs.length),
        State.bytesAt { s with mem := m } (wordAligned (adr - 4 * BitVec.ofNat 32 (k + 1))) 4 = s.reg rs[k]) ∧
      SameMemBut (wordAligned (adr - 4 * BitVec.ofNat 32 rs.length)) (4 * rs.length) s { s with mem := m } := by
  induction rs generalizing s adr with
  | nil => exact ⟨s.mem, by simp [State.pushRegs], by simp, fun _ _ => rfl⟩
  | cons r rs ih =>
    rw [List.length_cons] at hlen hreach
    have hfirst : s.reaches (wordAligned (adr - 4)) 4 true true := hreach 0 (Nat.succ_pos _)
    have hword (k : Nat) : adr - 4 - 4 * BitVec.ofNat 32 k = adr - 4 * BitVec.ofNat 32 (k + 1) := by
      rw [four_mul_succ, BitVec.sub_sub]
    have hrest : ∀ k < rs.length, (s.stored (wordAligned (adr - 4)) (s.reg r) 4).reaches
        (wordAligned (adr - 4 - 4 * BitVec.ofNat 32 (k + 1))) 4 true true := fun k hk => by
      rw [hword]
      exact State.reaches_stored (hreach (k + 1) (Nat.succ_lt_succ hk)) _ _ _
    obtain ⟨m, hpush, hwords, hsame⟩ := ih _ (adr - 4) (by omega) hrest
    simp only [hword] at hpush hwords hsame
    have htop : wordAligned (adr - 4) =
        wordAligned (adr - 4 * BitVec.ofNat 32 (rs.length + 1)) + BitVec.ofNat 32 (4 * rs.length) := by
      rw [← hword, wordAligned_sub, BitVec.ofNat_mul]
      exact (BitVec.sub_add_cancel _ _).symm
    refine ⟨m, ?_, ?_, ?_⟩
    · rw [State.pushRegs, State.store_reaches hfirst, Acc.bind_ok]
      exact hpush
    · intro k hk
      cases k with
      | zero =>
        have := hsame.bytesAt_after (k := 4) (by omega)
        rw [← htop, State.bytesAt_stored_word] at this
        exact this
      | succ k => exact hwords k (Nat.lt_of_succ_lt_succ hk)
    · exact (s.sameMemBut_stored _ _ _).append hsame htop

/-! ### DISPOSE's loads -/

/-- What the registers hold has no part in where an access completes. -/
theorem State.reaches_regs {s : State} {a : Word} {n : Nat} {w sp : Bool} (h : s.reaches a n w sp)
    (g : Vector Word 32) : State.reaches { s with regs := g } a n w sp := by
  obtain ⟨hperm, hjudge, hram⟩ := h
  have hperm' : State.permits { s with regs := g } a n w sp = true := hperm
  have hgoes : ¬State.Stopped { s with regs := g } a n w sp := (State.judge_iff hperm).1 hjudge
  exact ⟨hperm', (State.judge_iff hperm').2 hgoes, hram⟩

theorem State.setReg_eq (s : State) (r : Reg) (v : Word) : ∃ g, s.setReg r v = { s with regs := g } := by
  unfold State.setReg
  split
  · exact ⟨s.regs, rfl⟩
  · exact ⟨_, rfl⟩

/-- Loads that all reach memory give each register its word above the one before, and change nothing else. -/
theorem State.popRegs_reaches (s : State) (adr : Word) (rs : List Reg) (hnodup : rs.Nodup) (hzero : 0 ∉ rs)
    (hreach : ∀ k < rs.length, s.reaches (wordAligned (adr + 4 * BitVec.ofNat 32 k)) 4 false true) :
    ∃ g, s.popRegs adr rs = .ok (adr + 4 * BitVec.ofNat 32 rs.length) { s with regs := g } ∧
      (∀ k (h : k < rs.length),
        State.reg { s with regs := g } rs[k] = s.bytesAt (wordAligned (adr + 4 * BitVec.ofNat 32 k)) 4) ∧
      SameRegsBut rs s { s with regs := g } := by
  induction rs generalizing s adr with
  | nil => exact ⟨s.regs, by simp [State.popRegs], by simp, fun _ _ => rfl⟩
  | cons r rs ih =>
    obtain ⟨hr, hnodup⟩ := List.nodup_cons.1 hnodup
    have hr0 : r ≠ 0 := (List.ne_of_not_mem_cons hzero).symm
    have hfirst : s.reaches (wordAligned adr) 4 false true := by
      simpa using hreach 0 (Nat.succ_pos _)
    have hword (k : Nat) : adr + 4 + 4 * BitVec.ofNat 32 k = adr + 4 * BitVec.ofNat 32 (k + 1) := by
      rw [four_mul_succ, BitVec.add_assoc]
    obtain ⟨g, hset⟩ := s.setReg_eq r (s.bytesAt (wordAligned adr) 4)
    have hrest : ∀ k < rs.length, State.reaches { s with regs := g }
        (wordAligned (adr + 4 + 4 * BitVec.ofNat 32 k)) 4 false true := fun k hk => by
      rw [hword]
      exact State.reaches_regs (hreach (k + 1) (Nat.succ_lt_succ hk)) g
    have hreg (q : Reg) :
        State.reg { s with regs := g } q = if q = r then s.bytesAt (wordAligned adr) 4 else s.reg q := by
      rw [← hset, State.reg_setReg]
      simp only [ne_eq, hr0, not_false_eq_true, and_true]
    obtain ⟨g', hpop, hwords, hsame⟩ := ih _ (adr + 4) hnodup (List.not_mem_of_not_mem_cons hzero) hrest
    simp only [hword] at hpop hwords
    refine ⟨g', ?_, ?_, ?_⟩
    · rw [State.popRegs, State.load_reaches hfirst, Acc.bind_ok, hset]
      exact hpop
    · intro k hk
      cases k with
      | zero =>
        have hfirstWord := (hsame r hr).trans ((hreg r).trans (if_pos rfl))
        simpa using hfirstWord
      | succ k => exact hwords k (Nat.lt_of_succ_lt_succ hk)
    · intro q hq
      exact (hsame q (List.not_mem_of_not_mem_cons hq)).trans ((hreg q).trans (if_neg (List.ne_of_not_mem_cons hq)))

/-! ### The register list (R294) -/

theorem listRegs_length_le (l : BitVec 12) : (listRegs l).length ≤ 12 := by
  rw [listRegs, List.length_map]
  exact List.length_filter_le _ _

theorem listRegs_nodup (l : BitVec 12) : (listRegs l).Nodup :=
  List.Nodup.sublist (List.filter_sublist.map Prod.fst) (by decide : (listPositions.map Prod.fst).Nodup)

theorem not_mem_listRegs {l : BitVec 12} {r : Reg} (hr : r.toNat < 20) : r ∉ listRegs l :=
  fun h => absurd (listRegs_ge l r h) (by omega)

/-- The bit of an encoding that bit `n` of the list is: bits 31 to 21, then bit 0. -/
def listBit (n : Nat) : Nat := if n = 0 then 0 else n + 20

/-- The list that the two halfwords of PREPARE and DISPOSE hold. -/
theorem getLsbD_list (w : Word) {n : Nat} (hn : n < 12) :
    (w.extractLsb' 21 11 ++ w.extractLsb' 0 1).getLsbD n = w.getLsbD (listBit n) := by
  rw [BitVec.getLsbD_append, BitVec.getLsbD_extractLsb', BitVec.getLsbD_extractLsb', listBit]
  by_cases h0 : n = 0
  · simp [h0]
  · have hlt : ¬n < 1 := by omega
    have hdec : n - 1 < 11 := by omega
    have hsum : 21 + (n - 1) = n + 20 := by omega
    simp [h0, hdec, hsum]

/-- Each bit of the list names its register. -/
theorem listRegs_eq (w : Word) : listRegs (w.extractLsb' 21 11 ++ w.extractLsb' 0 1) =
    ((listPositions.map fun p => (listBit p.2, p.1)).filter fun p => w.getLsbD p.1).map Prod.snd := by
  have hbits : ∀ p ∈ listPositions,
      (w.extractLsb' 21 11 ++ w.extractLsb' 0 1).getLsbD p.2 = w.getLsbD (listBit p.2) :=
    fun p hp => getLsbD_list w (by revert p; decide)
  rw [listRegs, List.filter_congr hbits, List.filter_map, List.map_map]
  rfl

theorem listHalf_append (x : BitVec 11) (b : BitVec 1) (low : BitVec 5) : listHalf (x ++ b) low = x ++ low := by
  have hhigh : (x ++ b).extractLsb' 7 5 = x.extractLsb' 6 5 := append_extract_high x b (by decide)
  have hmid : (x ++ b).extractLsb' 1 6 = x.extractLsb' 0 6 := append_extract_high x b (by decide)
  rw [listHalf, hw, hhigh, hmid]
  exact congrArg (· ++ low) (parts (k := 6) (l := 5) x)

theorem frameHalf_append (op i5 : BitVec 5) (x : BitVec 11) (b : BitVec 1) :
    frameHalf op i5 (x ++ b) = (0#5 ++ op) ++ i5 ++ b := by
  have hlow : (x ++ b).extractLsb' 0 1 = b := append_low x b
  rw [frameHalf, hlow]
  apply BitVec.eq_of_getLsbD_eq
  intro k hk
  simp only [hw, BitVec.getLsbD_append, BitVec.getLsbD_extractLsb']
  grind

/-! ### Frames -/

section
variable {s t : State} {a : Word} {n : Nat} {ds : List Reg} {mask : Word}

/-- A listed register may be written. -/
theorem SameRegsBut.setReg (h : SameRegsBut ds s t) {r : Reg} (hr : r ∈ ds) (v : Word) :
    SameRegsBut ds s (t.setReg r v) := by
  intro q hq
  rw [State.reg_setReg, if_neg (fun ⟨hqr, _⟩ => hq (hqr ▸ hr)), h q hq]

/-- Only memory differs. -/
theorem OnlyMem.of_mem {m : Memory} (h : SameMemBut a n s { s with mem := m }) :
    OnlyMem a n ds mask s { s with mem := m } :=
  ⟨fun r _ => State.reg_congr rfl r, rfl, h, ⟨rfl, rfl, rfl, rfl⟩, rfl, ⟨rfl, rfl, rfl, rfl, rfl⟩, rfl⟩

/-- More registers may be written. -/
theorem OnlyMem.mono {ds' : List Reg} (h : OnlyMem a n ds mask s t) (hds : ds ⊆ ds') : OnlyMem a n ds' mask s t := by
  obtain ⟨hregs, hrest⟩ := h
  exact ⟨fun r hr => hregs r fun hr' => hr (hds hr'), hrest⟩

theorem OnlyMem.setReg (h : OnlyMem a n ds mask s t) {r : Reg} (hr : r ∈ ds) (v : Word) :
    OnlyMem a n ds mask s (t.setReg r v) := by
  obtain ⟨hregs, hrest⟩ := h
  exact ⟨hregs.setReg hr v, by simpa [SamePswBut, SameMemBut, SameSystem, SameRest] using hrest⟩

theorem OnlyMem.falls (h : OnlyMem a n ds mask s t) (hpc : t.pc = s.pc) (len : Nat) : Falls len s (t.advance len) := by
  obtain ⟨-, -, -, -, -, ⟨-, -, -, -, hcfg⟩, -⟩ := h
  rw [Falls, State.advance_pc, hpc, hcfg]

theorem OnlyRegs.setReg (h : OnlyRegs ds mask s t) {r : Reg} (hr : r ∈ ds) (v : Word) :
    OnlyRegs ds mask s (t.setReg r v) := by
  obtain ⟨hregs, hrest⟩ := h
  exact ⟨hregs.setReg hr v, by simpa [SamePswBut, SameMem, SameSystem, SameRest] using hrest⟩

theorem OnlyRegs.setPc (h : OnlyRegs ds mask s t) (v : Word) : OnlyRegs ds mask s (t.setPc v) := h

theorem OnlyRegs.cfg (h : OnlyRegs ds mask s t) : t.cfg = s.cfg := by
  obtain ⟨-, -, -, -, -, ⟨-, -, -, -, hcfg⟩, -⟩ := h
  exact hcfg

end

/-! ### PREPARE and DISPOSE -/

section
variable {i : Instr} {s : State} {l : BitVec 12} {imm5 : BitVec 5}

/-- PREPARE whose stores all reach memory: `f` completes it (R599). -/
theorem State.prepared_reaches (f : State → State) (hstop : s.stopAfter = none)
    (hreach : ∀ k < (listRegs l).length, s.reaches (s.pushAddress k) 4 true true) :
    ∃ u, s.prepared l imm5 f = .next (f u) ∧
      (∀ k (h : k < (listRegs l).length), u.bytesAt (s.pushAddress k) 4 = s.reg (listRegs l)[k]) ∧
      u.reg spReg = s.spBelow l imm5 ∧ u.pc = s.pc ∧
      OnlyMem (wordAligned (s.reg spReg - 4 * BitVec.ofNat 32 (listRegs l).length)) (4 * (listRegs l).length) [spReg] 0
        s u := by
  obtain ⟨m, hpush, hwords, hsame⟩ := s.pushRegs_reaches (s.reg spReg) (listRegs l)
    ((listRegs_length_le l).trans_lt (by decide)) hreach
  refine ⟨State.setReg { s with mem := m } spReg (s.spBelow l imm5), ?_, hwords, State.holds_move _ spReg _ 0,
    State.setReg_pc _ _ _, (OnlyMem.of_mem hsame).setReg List.mem_cons_self _⟩
  rw [State.prepared, State.stopPoint_none hstop, wordsOf_eq]
  exact congrArg (Acc.finish · _) hpush

/-- PREPARE without a value for ep (R599). -/
theorem prepares (hexec : exec i s = s.prepared l imm5 fun t => t.advance 4) : Prepares i s l imm5 [] 4 := by
  intro hstop hreach
  obtain ⟨u, hprepared, hwords, hsp, hpc, honly⟩ := State.prepared_reaches (imm5 := imm5) _ hstop hreach
  rw [State.spBelow, ← wordsOf_eq] at hsp
  exact ⟨_, hexec.trans hprepared, hwords, hsp, by simp, honly.falls hpc 4, honly⟩

/-- PREPARE with a value for ep, which may be the new sp (R600). -/
theorem preparesEp {ep : State → Word} {len : Nat} {v : Word}
    (hexec : exec i s = s.prepared l imm5 fun t => t.move epReg (ep t) len)
    (hep : ∀ t, t.reg spReg = s.spBelow l imm5 → ep t = v) : Prepares i s l imm5 [(epReg, v)] len := by
  intro hstop hreach
  obtain ⟨u, hprepared, hwords, hsp, hpc, honly⟩ :=
    State.prepared_reaches (imm5 := imm5) (fun t => t.move epReg (ep t) len) hstop hreach
  rw [hep u hsp] at hprepared
  rw [State.spBelow, ← wordsOf_eq] at hsp
  have honlyEp := (honly.mono (List.subset_cons_of_subset epReg fun _ => id)).setReg List.mem_cons_self v
  refine ⟨_, hexec.trans hprepared, hwords, ?_, ?_, ?_, ?_⟩
  · rw [State.move, State.reg_advance, State.reg_setReg, if_neg (by decide), hsp]
  · intro p hp
    obtain rfl := List.mem_singleton.1 hp
    exact State.holds_move _ epReg v len
  · exact honlyEp.falls ((State.setReg_pc _ _ _).trans hpc) len
  · exact honlyEp.mono (by simp)

/-- DISPOSE whose loads all reach memory: `f` completes it (R587). -/
theorem State.disposed_reaches (f : State → State) (hstop : s.stopAfter = none)
    (hreach : ∀ k < (listRegs l).length, s.reaches (s.popAddress imm5 k) 4 false true) :
    ∃ u, s.disposed l imm5 f = .next (f u) ∧
      (∀ k (h : k < (listRegs l).reverse.length),
        u.reg (listRegs l).reverse[k] = s.bytesAt (s.popAddress imm5 k) 4) ∧
      u.reg spReg = s.reg spReg + wordsOf imm5 + 4 * BitVec.ofNat 32 (listRegs l).length ∧ u.pc = s.pc ∧
      OnlyRegs (spReg :: listRegs l) 0 s u := by
  have hmem {r : Reg} (h : r ∈ (listRegs l).reverse) : r ∈ listRegs l := List.mem_reverse.1 h
  rw [← List.length_reverse] at hreach
  obtain ⟨g, hpop, hwords, hsame⟩ := s.popRegs_reaches (s.reg spReg + wordsOf imm5) (listRegs l).reverse
    (List.nodup_reverse.2 (listRegs_nodup l)) (fun h => not_mem_listRegs (by decide) (hmem h)) hreach
  have honly : OnlyRegs (spReg :: listRegs l) 0 s { s with regs := g } :=
    ⟨fun r hr => hsame r fun h => hr (List.mem_cons_of_mem _ (hmem h)), rfl, fun _ => rfl, ⟨rfl, rfl, rfl, rfl⟩,
      rfl, ⟨rfl, rfl, rfl, rfl, rfl⟩, rfl⟩
  rw [List.length_reverse] at hpop
  refine ⟨State.setReg { s with regs := g } spReg
      (s.reg spReg + wordsOf imm5 + 4 * BitVec.ofNat 32 (listRegs l).length), ?_, fun k hk => ?_,
    State.holds_move _ spReg _ 0, State.setReg_pc _ _ _, honly.setReg List.mem_cons_self _⟩
  · rw [State.disposed, State.stopPoint_none hstop]
    exact congrArg (Acc.finish · _) hpop
  · have hsp : (listRegs l).reverse[k] ≠ spReg := fun h =>
      not_mem_listRegs (r := spReg) (by decide) (h ▸ hmem (List.getElem_mem hk))
    rw [State.reg_setReg, if_neg fun h => hsp h.1]
    exact hwords k hk

/-- DISPOSE: `next` is where it goes on (R587, R588). -/
theorem disposes {f : State → State} {next : State → Word} (hexec : exec i s = s.disposed l imm5 f)
    (hf : ∀ t, t.pc = s.pc → f t = t.setPc (next (f t))) : Disposes i s l imm5 next := by
  intro hstop hreach
  obtain ⟨u, hdisposed, hwords, hsp, hpc, honly⟩ := State.disposed_reaches (imm5 := imm5) f hstop hreach
  refine ⟨f u, hexec.trans hdisposed, ?_, ?_, ?_, ?_⟩
  · rw [hf u hpc]
    exact hwords
  · rw [hf u hpc, State.reg_setPc, hsp]
  · rw [hf u hpc, State.setPc_pc, honly.cfg, ← hf u hpc]
  · rw [hf u hpc]
    exact honly.setPc _

end

/-- Settles O42: each form is PREPARE or DISPOSE with its value for ep or the program counter, and the two encodings are
those of the list that they hold. -/
theorem prepareInstruction : Obligations.PrepareInstruction := by
  intro s w l i5 i16 i32 r1 m frame list sp'
  have hframe (op : BitVec 5) : (0#5 ++ op) ++ i5 ++ w.extractLsb' 0 1 = frameHalf op i5 m :=
    (frameHalf_append _ _ _ _).symm
  have hlist (low : BitVec 5) : list low = listHalf m low := (listHalf_append _ _ _).symm
  refine ⟨prepares rfl, preparesEp (ep := fun t => t.reg spReg) rfl fun _ => id,
    preparesEp (ep := fun _ => sext i16) rfl fun _ _ => rfl,
    preparesEp (ep := fun _ => i16 ++ 0#16) rfl fun _ _ => append_zeros16 i16,
    preparesEp (ep := fun _ => i32) rfl fun _ _ => rfl, disposes (f := fun t => t.advance 4) rfl ?_,
    disposes (f := fun t => t.setPc (t.reg r1)) rfl ?_, listRegs_eq w, ?_, ?_⟩
  · intro t hpc
    rw [State.advance, hpc]
    rfl
  · intro t _
    rw [State.reg_setPc]
  · rw [hlist]
    exact (congrArg (decodeHalves · _ _ _) (hframe 0b11110)).trans (decodeFirst_encode (i := .prepare m i5) rfl)
  · rw [hlist]
    exact (congrArg (decodeHalves · _ _ _) (hframe 0b11001)).trans (decodeFirst_encode (i := .dispose m i5) rfl)

end Sys2Proof.Machine
end

section
/-! PROOFS. A step at a boundary where nothing else happens (O6), and the conditions after CMP (O22). -/
namespace Sys2Proof.Machine

/-- Settles O6, by the lemma that O7 rests on too. -/
theorem stepRunsDecoded : Obligations.StepRunsDecoded :=
  fun _ _ _ _ _ _ hreset hhalt hchosen hmep hfetch hdecode => step_of_fetch hreset hhalt hchosen hmep hfetch hdecode

/-! ### Conditions after a comparison (R290) -/

/-- CMP writes the four flags of the difference (R394). -/
theorem exec_cmp (r1 r2 : Reg) (s : State) :
    exec (.cmp r1 r2) s = .next ((s.putArith (subc (s.reg r2) (s.reg r1) false)).advance 2) := rfl

/-- The sign of a wrapped difference is wrong exactly if it overflows: the two flags together tell the order. -/
theorem sign_xor_overflow (a b : Word) :
    (decide ((BitVec.ofInt 32 (a.toInt - b.toInt)).toInt < 0) ^^ decide ¬Fits (a.toInt - b.toInt)) =
      decide (a.toInt < b.toInt) := by
  have ha := a.toInt_lt
  have ha' := a.le_toInt
  have hb := b.toInt_lt
  have hb' := b.le_toInt
  rw [BitVec.toInt_ofInt, Bool.eq_iff_iff, Int.bmod]
  simp only [Bool.xor_iff_ne, decide_eq_true_eq, ne_eq, decide_eq_decide]
  split
  · omega
  · omega

/-- A difference is 0 exactly if the operands are equal. -/
theorem ofInt_toInt_sub_eq_zero (a b : Word) : BitVec.ofInt 32 (a.toInt - b.toInt) = 0 ↔ a = b := by
  have hsub : (subc a b false).value = a - b := by simp [subc]
  rw [← subc_value, hsub]
  bv_omega

/-- Settles O22: every condition is made of CY, Z and S xor OV. -/
theorem compareThenCondition : Obligations.CompareThenCondition := by
  intro s t r1 r2 h a b
  obtain rfl := Host.Outcome.next.inj ((exec_cmp r1 r2 s).symm.trans h)
  obtain ⟨hcy, hov, hs, hz⟩ : FlagsAre ((s.putArith (subc a b false)).advance 2) _ _ _ :=
    s.flagsAre_putArith_subc a b
  generalize (s.putArith (subc a b false)).advance 2 = t at *
  have hlt : (t.fS ^^ t.fOV) = decide (a.toInt < b.toInt) := by rw [hs, hov, sign_xor_overflow]
  have heq : t.fZ = decide (a = b) := by rw [hz, decide_eq_decide, ofInt_toInt_sub_eq_zero]
  have hle : (a.toNat ≤ b.toNat) ↔ (a.toNat < b.toNat ∨ a = b) := by rw [BitVec.toNat_eq]; omega
  have hle' : (a.toInt ≤ b.toInt) ↔ (a.toInt < b.toInt ∨ a = b) := by rw [BitVec.toInt_inj.symm]; omega
  refine ⟨hcy, ?_, ?_, ?_, hlt, ?_, ?_, ?_, heq, ?_⟩
  · show (!t.fCY) = _
    rw [hcy, ← decide_not, decide_eq_decide, not_lt]
  · show (t.fCY || t.fZ) = _
    rw [hcy, heq, ← Bool.decide_or, decide_eq_decide, hle]
  · show (!(t.fCY || t.fZ)) = _
    rw [hcy, heq, ← Bool.decide_or, ← decide_not, decide_eq_decide, ← hle, not_le]
  · show (!(t.fS ^^ t.fOV)) = _
    rw [hlt, ← decide_not, decide_eq_decide, not_lt]
  · show ((t.fS ^^ t.fOV) || t.fZ) = _
    rw [hlt, heq, ← Bool.decide_or, decide_eq_decide, hle']
  · show (!((t.fS ^^ t.fOV) || t.fZ)) = _
    rw [hlt, heq, ← Bool.decide_or, ← decide_not, decide_eq_decide, ← hle', not_le]
  · show (!t.fZ) = _
    rw [heq, ← decide_not]

end Sys2Proof.Machine
end

section
/-! PROOFS. The example words of the spec are encodings of their instructions, so they decode to them (O1). -/
namespace Sys2Proof

/-- Words that are the encoding of a well-formed instruction decode to it, whatever zeros follow them. -/
theorem decodeFirst_of_encode {i : Instr} {l : List Half} (hencode : encode i = l) (h : i.wellFormed = true) :
    decodeFirst l = .ok i :=
  hencode ▸ decodeFirst_encode h

/-- Settles O1: each word is the encoding of its instruction. The list {r29, r31} of DISPOSE is 6 (R294), and the
displacement -4 of BNE stands halved, as 254 (R540). -/
theorem wordsDecode : Obligations.WordsDecode := by
  refine ⟨?ldB, ?add, ?bne, ?dispose, ?mov, ?addfD, ?maddfS⟩
  case ldB => exact decodeFirst_of_encode (l := [0x5F0A, 0xFFFC]) (by decide) rfl
  case add => exact decodeFirst_of_encode (l := [0x11C1]) (by decide) rfl
  case bne => exact decodeFirst_of_encode (l := [0xFDEA]) (by decide) rfl
  case dispose => exact decodeFirst_of_encode (l := [0x0648, 0x0060]) (by decide) rfl
  case mov => exact decodeFirst_of_encode (l := [0x0625, 0x5678, 0x1234]) (by decide) rfl
  case addfD => exact decodeFirst_of_encode (l := [0x27E2, 0x3470]) (by decide) rfl
  case maddfS => exact decodeFirst_of_encode (l := [0x17E1, 0x1D84]) (by decide) rfl

end Sys2Proof
end

section
/-! PROOFS. Sums, differences, moves, products and CAXI: what a register and the flags hold after they are written, and
the exact numbers that the 32-bit and 64-bit operations stand for (O21, O23, O24, O41). -/
namespace Sys2Proof.Machine

/-! ### A register after a write (R31) -/

theorem State.holds_setReg (s : State) (r : Reg) (v : Word) : Holds (s.setReg r v) r v := s.holds_move r v 0

/-- A register holds what it holds while another is written. -/
theorem Holds.setReg {s : State} {r r' : Reg} {v : Word} (h : Holds s r v) (hr : r ≠ r') (v' : Word) :
    Holds (s.setReg r' v') r v := by
  unfold Holds
  rw [State.reg_setReg, if_neg (fun hrr => hr hrr.1)]
  exact h

/-! ### Frames -/

section
variable {s t : State} {a : Word} {n : Nat} {ds : List Reg}

theorem OnlyRegs.refl (s : State) (ds : List Reg) (mask : Word) : OnlyRegs ds mask s s :=
  ⟨fun _ _ => rfl, rfl, fun _ => rfl, ⟨rfl, rfl, rfl, rfl⟩, rfl, ⟨rfl, rfl, rfl, rfl, rfl⟩, rfl⟩

theorem SamePswBut.putFlags (h : SamePswBut flagsCOSZ s t) (c o n z : Bool) :
    SamePswBut flagsCOSZ s (t.putFlags c o n z) :=
  (t.psw_putFlags c o n z (~~~flagsCOSZ) (by decide)).trans h

theorem OnlyRegs.putFlags (h : OnlyRegs ds flagsCOSZ s t) (c o n z : Bool) :
    OnlyRegs ds flagsCOSZ s (t.putFlags c o n z) := by
  obtain ⟨hregs, hpsw, hrest⟩ := h
  exact ⟨hregs, hpsw.putFlags c o n z, hrest⟩

theorem OnlyMem.putFlags (h : OnlyMem a n ds flagsCOSZ s t) (c o n' z : Bool) :
    OnlyMem a n ds flagsCOSZ s (t.putFlags c o n' z) := by
  obtain ⟨hregs, hpsw, hrest⟩ := h
  exact ⟨hregs, hpsw.putFlags c o n' z, hrest⟩

end

/-! ### The flags of a result (R419) -/

theorem State.flagsAre_putFlags (s : State) (cy ov : Bool) (r : Word) :
    FlagsAre (s.putFlags cy ov r.msb (r == 0)) cy ov r :=
  ⟨State.fCY_putFlags .., State.fOV_putFlags .., (State.fS_putFlags ..).trans BitVec.msb_eq_toInt,
    State.fZ_putFlags ..⟩

/-- A move does not touch the flags. -/
theorem FlagsAre.move {s : State} {cy ov : Bool} {r : Word} (h : FlagsAre s cy ov r) (dst : Reg) (v : Word)
    (len : Nat) : FlagsAre (s.move dst v len) cy ov r := by
  have hpsw : (s.move dst v len).psw = s.psw := State.setReg_psw _ _ _
  simpa only [FlagsAre, State.fCY, State.fOV, State.fS, State.fZ, hpsw] using h

/-! ### Sums and differences as numbers (R8) -/

theorem addc_value (a b : Word) (c : Bool) :
    (addc a b c).value = BitVec.ofInt 32 (a.toInt + b.toInt + c.toNat) := by
  rw [BitVec.ofInt_add, BitVec.ofInt_add, BitVec.ofInt_toInt, BitVec.ofInt_toInt]
  cases c <;> rfl

/-- OV says that the signed sum is out of range. -/
theorem addc_ov (a b : Word) (c : Bool) :
    (addc a b c).ov = decide ¬Fits (a.toInt + b.toInt + c.toNat) := by
  have hov : (addc a b c).ov = (a.msb == b.msb && (addc a b c).value.msb != a.msb) := rfl
  have ha := a.toInt_lt
  have ha' := a.le_toInt
  have hb := b.toInt_lt
  have hb' := b.le_toInt
  have hc := c.toNat_le
  rw [hov, addc_value, BitVec.msb_eq_toInt, BitVec.msb_eq_toInt, BitVec.msb_eq_toInt, BitVec.toInt_ofInt,
    Bool.eq_iff_iff, Int.bmod]
  simp only [Bool.and_eq_true, beq_iff_eq, bne_iff_ne, ne_eq, decide_eq_decide, decide_eq_true_eq]
  split <;> omega

theorem toInt_complement (b : Word) : (~~~b).toInt = -b.toInt - 1 := by
  rw [BitVec.toInt_not, BitVec.toInt_eq_toNat_bmod, Int.bmod, Int.bmod]
  split <;> split <;> omega

/-- A difference is the sum with the complements of the subtrahend and of the borrow; only the carry is another. -/
theorem subc_eq_addc (a b : Word) (c : Bool) :
    subc a b c = { addc a (~~~b) (!c) with cy := decide (a.toNat < b.toNat + c.toNat) } := by
  have hvalue : a - b - (BitVec.ofBool c).setWidth 32 = a + ~~~b + (BitVec.ofBool !c).setWidth 32 := by
    cases c
    · show a - b - 0 = a + ~~~b + 1
      bv_omega
    · show a - b - 1 = a + ~~~b + 0
      bv_omega
  rw [subc, addc, hvalue, BitVec.msb_not]
  cases a.msb <;> cases b.msb <;> rfl

/-- The exact difference, as the exact sum of what is added for it. -/
theorem add_complement (a b : Word) (c : Bool) :
    a.toInt + (~~~b).toInt + (!c).toNat = a.toInt - b.toInt - c.toNat := by
  have hc : (!c).toNat + c.toNat = 1 := by cases c <;> rfl
  rw [toInt_complement]
  omega

/-! ### Additions, subtractions and comparisons -/

section
variable {i : Instr} {s : State} {dst : Reg} {len : Nat}

/-- An instruction that writes the flags of its result and moves the result to a register. -/
theorem movesFlagged {v : Word} {cy ov : Bool}
    (hexec : exec i s = .next ((s.putFlags cy ov v.msb (v == 0)).move dst v len)) : MovesFlagged i s dst v cy ov len :=
  ⟨_, hexec, State.holds_move _ _ _ _, (s.flagsAre_putFlags cy ov v).move dst v len, State.falls_move _ _ _ _,
    (((OnlyRegs.refl s _ _).putFlags _ _ _ _).setReg List.mem_cons_self v).setPc _⟩

theorem adds {a b : Word} {c : Bool} (hexec : exec i s = .next (s.arith dst (addc a b c) len)) :
    Adds i s dst a b c len := by
  rw [Adds, ← addc_value, ← addc_ov]
  exact movesFlagged hexec

theorem subtracts {a b : Word} {c : Bool} (hexec : exec i s = .next (s.arith dst (subc a b c) len)) :
    Subtracts i s dst a b c len := by
  rw [subc_eq_addc] at hexec
  rw [Subtracts, ← add_complement, ← addc_value, ← addc_ov]
  exact movesFlagged hexec

theorem compares {a b : Word} (hexec : exec i s = .next (s.compare (subc a b false) len)) : Compares i s a b len :=
  ⟨_, hexec, s.flagsAre_putArith_subc a b, rfl, ((OnlyRegs.refl s _ _).putFlags _ _ _ _).setPc _⟩

end

/-- Settles O21: each instruction adds or subtracts two operands, with a carry or borrow that is its condition. -/
theorem addInstructions : Obligations.AddInstructions := by
  intro s r1 r2 r3 i5 i16 cc
  exact ⟨adds rfl, adds rfl, adds rfl, adds rfl, subtracts rfl, subtracts rfl, subtracts rfl, compares rfl,
    compares rfl⟩

/-! ### Moves -/

/-- An instruction that moves `v'` to a register, where this is `v` by another name. -/
theorem moves {i : Instr} {s : State} {dst : Reg} {v v' : Word} {len : Nat}
    (hexec : exec i s = .next (s.move dst v' len)) (hv : v' = v) : Moves i s dst v len := by
  subst hv
  exact ⟨_, hexec, s.holds_move _ _ _, s.falls_move _ _ _, s.onlyRegs_move _ _ _⟩

theorem zextB_eq_mod (w : Word) : zextB w = BitVec.ofNat 32 (w.toNat % 256) :=
  (zext_eq (w.setWidth 8)).trans (congrArg (BitVec.ofNat 32) (BitVec.toNat_setWidth 8 w))

theorem zextH_eq_mod (w : Word) : zextH w = BitVec.ofNat 32 (w.toNat % 65536) :=
  (zext_eq (w.setWidth 16)).trans (congrArg (BitVec.ofNat 32) (BitVec.toNat_setWidth 16 w))

/-- An immediate in the high halfword (R401). -/
theorem append_zeros16_comm (v : Half) : v ++ 0#16 = BitVec.ofNat 32 (v.toNat * 65536) := by
  rw [append_zeros16, Nat.mul_comm]

/-- A bit shifted in from the right (R484). -/
theorem shiftLeft_one_or (w : Word) (b : Bool) :
    w <<< 1 ||| (if b then 1 else 0) = BitVec.ofNat 32 (2 * w.toNat + if b then 1 else 0) := by
  cases b with
  | false => exact (BitVec.or_zero).trans (shiftLeft_one w)
  | true =>
    have hdisjoint : w <<< 1 &&& 1#32 = 0#32 := by
      rw [BitVec.and_one_eq_setWidth_ofBool_getLsbD, BitVec.getLsbD_shiftLeft]
      rfl
    show w <<< 1 ||| 1#32 = BitVec.ofNat 32 (2 * w.toNat + 1)
    rw [← BitVec.add_eq_or_of_and_eq_zero _ _ hdisjoint, shiftLeft_one, BitVec.ofNat_add]

/-- Settles O23: each instruction is a move, and its value is that of its page. -/
theorem moveInstructions : Obligations.MoveInstructions := by
  intro s r1 r2 r3 i5 i16 i32 cc
  exact ⟨moves rfl rfl, moves rfl rfl, moves rfl rfl, moves rfl rfl,
    moves rfl (congrArg (s.reg r1 + ·) (append_zeros16_comm i16)), moves rfl rfl, moves rfl rfl,
    moves rfl (zextB_eq_mod _), moves rfl (zextH_eq_mod _), moves rfl rfl, moves rfl rfl, moves rfl rfl,
    moves rfl (shiftLeft_one_or _ _)⟩

/-! ### Products (R410 to R418) -/

/-- The low word of a 64-bit number. -/
theorem extractLow_ofInt (n : Int) : (BitVec.ofInt 64 n).extractLsb' 0 32 = BitVec.ofInt 32 n := by
  apply BitVec.eq_of_toNat_eq
  rw [BitVec.extractLsb'_toNat, BitVec.toNat_ofInt, BitVec.toNat_ofInt]
  omega

theorem setWidth_eq_ofInt {m : Nat} (k : Nat) (v : BitVec m) : v.setWidth k = BitVec.ofInt k v.toNat := by
  rw [BitVec.ofInt_natCast, BitVec.ofNat_toNat]

theorem signed_product {k m n : Nat} (a : BitVec m) (b : BitVec n) :
    a.signExtend k * b.signExtend k = BitVec.ofInt k (a.toInt * b.toInt) := (BitVec.ofInt_mul _ _).symm

theorem unsigned_product {k m n : Nat} (a : BitVec m) (b : BitVec n) :
    a.setWidth k * b.setWidth k = BitVec.ofInt k (a.toNat * b.toNat) := by
  rw [BitVec.ofInt_mul, setWidth_eq_ofInt, setWidth_eq_ofInt]

/-- A sum with a doubleword wraps modulo 2^64 (D52). -/
theorem ofInt_add_dword (n : Int) (d : DWord) : BitVec.ofInt 64 n + d = BitVec.ofInt 64 (n + d.toInt) := by
  rw [BitVec.ofInt_add, BitVec.ofInt_toInt]

theorem State.falls_product (s : State) (r2 r3 : Reg) (d : DWord) : Falls 4 s (s.product r2 r3 d) := by
  simp [Falls, State.product]

theorem State.onlyRegs_product (s : State) (r2 r3 : Reg) (d : DWord) : OnlyRegs [r2, r3] 0 s (s.product r2 r3 d) := by
  have hr3 : r3 ∈ [r2, r3] := List.mem_cons_of_mem _ List.mem_cons_self
  exact (((OnlyRegs.refl s _ _).setReg List.mem_cons_self _).setReg hr3 _).setPc _

/-- An instruction that writes the low word of a doubleword to `r2` and then the high word to `r3`, where `n`
is the number of the doubleword. -/
theorem gives_product {i : Instr} {s : State} {r2 r3 : Reg} {d : DWord} {n : Int}
    (hexec : exec i s = .next (s.product r2 r3 d)) (hd : d = BitVec.ofInt 64 n) :
    Gives i s fun t => Holds t r3 ((BitVec.ofInt 64 n).extractLsb' 32 32) ∧
      (r2 ≠ r3 → Holds t r2 (BitVec.ofInt 32 n)) ∧ Falls 4 s t ∧ OnlyRegs [r2, r3] 0 s t := by
  subst hd
  rw [← extractLow_ofInt]
  exact ⟨_, hexec, State.holds_setReg _ _ _, fun hr => (State.holds_setReg _ _ _).setReg hr _, s.falls_product r2 r3 _,
    s.onlyRegs_product r2 r3 _⟩

/-- A pair is written as a product to its two registers, which differ. -/
theorem gives_accumulate {i : Instr} {s : State} {p q : Pair} {d : DWord} {n : Int}
    (hexec : exec i s = .next ((s.setPair p (d + s.pair q)).advance 4)) (hd : d = BitVec.ofInt 64 n) :
    Gives i s fun t => Holds t p.lo (BitVec.ofInt 32 (n + (s.pair q).toInt)) ∧
      Holds t p.hi ((BitVec.ofInt 64 (n + (s.pair q).toInt)).extractLsb' 32 32) ∧ Falls 4 s t ∧
      OnlyRegs [p.lo, p.hi] 0 s t := by
  obtain ⟨t, ht, hhi, hlo, hframe⟩ := gives_product hexec (hd ▸ ofInt_add_dword n (s.pair q))
  exact ⟨t, ht, hlo (Pair.lo_ne_hi p), hhi, hframe⟩

/-- Settles O24: the extended factors stand for their numbers, so their product stands for the exact one. -/
theorem multiplyInstructions : Obligations.MultiplyInstructions := by
  intro s r1 r2 r3 p3 p4 i5 i9 i16 low product accumulate
  exact ⟨moves rfl (signed_product _ _), moves rfl (signed_product _ _), moves rfl (signed_product _ _),
    gives_product rfl (signed_product _ _), gives_product rfl (signed_product _ _),
    gives_product rfl (unsigned_product _ _), gives_product rfl (unsigned_product _ _),
    gives_accumulate rfl (signed_product _ _), gives_accumulate rfl (unsigned_product _ _)⟩

/-! ### CAXI (R580) -/

/-- CAXI stores reg3 or the word itself, and ends with the flags and the write of its register. -/
theorem exec_caxi_of_reaches {s : State} {r1 r2 r3 : Reg}
    (hread : s.reaches (wordAligned (s.reg r1)) 4 false (r1 == spReg))
    (hwrite : s.reaches (wordAligned (s.reg r1)) 4 true (r1 == spReg)) :
    let w := s.bytesAt (wordAligned (s.reg r1)) 4
    exec (.caxi r1 r2 r3) s =
      .next ((s.stored (wordAligned (s.reg r1)) (if s.reg r2 = w then s.reg r3 else w) 4).compareMove
        (subc (s.reg r2) w false) r3 w) := by
  rw [exec, execCaxi, State.modify_reaches hread hwrite]
  rfl

theorem State.compareMove_mem (s : State) (f : Flagged) (dst : Reg) (v : Word) : (s.compareMove f dst v).mem = s.mem :=
  State.setReg_mem _ _ _

theorem OnlyMem.compareMove {a : Word} {n : Nat} {s t : State} {dst : Reg} (h : OnlyMem a n [dst] flagsCOSZ s t)
    (f : Flagged) (v : Word) : OnlyMem a n [dst] flagsCOSZ s (t.compareMove f dst v) :=
  (h.putFlags _ _ _ _).setReg List.mem_cons_self v

/-- Settles O41: after the store, CAXI is a comparison that moves the old word to its register. -/
theorem compareAndExchange : Obligations.CompareAndExchange := by
  intro s r1 r2 r3 a w hread hwrite
  refine ⟨_, exec_caxi_of_reaches hread hwrite, State.holds_compareMove _ _ _ _, fun k hk => ?_,
    State.flagsAre_compareMove (State.flagsAre_putArith_subc _ _ _) _ _, State.falls_compareMove rfl rfl _ _ _,
    (OnlyMem.of_mem (s.sameMemBut_stored a _ 4)).compareMove _ w⟩
  rw [State.compareMove_mem]
  exact s.read_stored a _ hk (by decide)

end Sys2Proof.Machine
end

section
/-! PROOFS. Saturated and logical instructions (R440 to R459): what their two flag updates write and leave, and what the
bound that replaces an overflowing result is as a number (O25, O26). -/
namespace Sys2Proof.Machine

/-! ### PSW after the two flag updates -/

/-- The flags of a saturated operation that overflows: SAT is set over the four others (R54). -/
theorem State.putSat_of_ov (s : State) {f : Flagged} (hov : f.ov = true) :
    s.putSat f =
      let t := s.putFlags f.cy f.ov (saturate f).msb (saturate f == 0)
      { t with psw := putBit t.psw 4 true } := if_pos hov

/-- One that does not overflow writes the four flags alone. -/
theorem State.putSat_of_not_ov (s : State) {f : Flagged} (hov : ¬f.ov = true) :
    s.putSat f = s.putFlags f.cy f.ov (saturate f).msb (saturate f == 0) := if_neg hov

/-- The bits of the mask may be written. -/
theorem OnlyRegs.psw {ds : List Reg} {mask w : Word} {s t : State} (h : OnlyRegs ds mask s t)
    (hw : w &&& ~~~mask = t.psw &&& ~~~mask) : OnlyRegs ds mask s { t with psw := w } := by
  obtain ⟨hregs, hpsw, hrest⟩ := h
  exact ⟨hregs, hw.trans hpsw, hrest⟩

theorem State.onlyRegs_putLogic (s : State) (ds : List Reg) (r : Word) : OnlyRegs ds flagsOSZ s (s.putLogic r) :=
  (OnlyRegs.refl s _ _).psw (s.psw_putOSZ _ _ _ (~~~flagsOSZ) rfl)

theorem State.onlyRegs_putSat (s : State) (ds : List Reg) (f : Flagged) : OnlyRegs ds flagsAll s (s.putSat f) := by
  have hflags : OnlyRegs ds flagsAll s (s.putFlags f.cy f.ov (saturate f).msb (saturate f == 0)) :=
    (OnlyRegs.refl s _ _).psw (s.psw_putFlags _ _ _ _ (~~~flagsAll) rfl)
  by_cases hov : f.ov = true
  · rw [s.putSat_of_ov hov]
    exact hflags.psw (and_putBit _ _ 4 true rfl)
  · rw [s.putSat_of_not_ov hov]
    exact hflags

/-- A logical operation gives OV, S and Z, and keeps CY (R459). -/
theorem State.flagsAre_putLogic (s : State) (r : Word) : FlagsAre (s.putLogic r) s.fCY false r :=
  ⟨State.fCY_putOSZ .., State.fOV_putOSZ .., (State.fS_putOSZ ..).trans BitVec.msb_eq_toInt, State.fZ_putOSZ ..⟩

/-- SAT is none of the four flags. -/
theorem FlagsAre.setSat {s : State} {cy ov : Bool} {r : Word} (h : FlagsAre s cy ov r) :
    FlagsAre { s with psw := putBit s.psw 4 true } cy ov r := by
  simpa [FlagsAre, State.fCY, State.fOV, State.fS, State.fZ, getElem_putBit] using h

/-- A saturated operation gives S and Z of the stored value (R54). -/
theorem State.flagsAre_putSat (s : State) (f : Flagged) : FlagsAre (s.putSat f) f.cy f.ov (saturate f) := by
  have hflags := s.flagsAre_putFlags f.cy f.ov (saturate f)
  by_cases hov : f.ov = true
  · rw [s.putSat_of_ov hov]
    exact hflags.setSat
  · rw [s.putSat_of_not_ov hov]
    exact hflags

/-- SAT is cumulative (R54). -/
theorem State.fSAT_putSat (s : State) (f : Flagged) : (s.putSat f).fSAT = (s.fSAT || f.ov) := by
  by_cases hov : f.ov = true
  · rw [s.putSat_of_ov hov, hov, Bool.or_true]
    exact (getLsbD_putBit _ 4 true 4 (by decide)).trans (if_pos rfl)
  · rw [s.putSat_of_not_ov hov, State.fSAT_putFlags, Bool.eq_false_of_not_eq_true hov, Bool.or_false]

/-! ### Saturation as a number (R9, R447) -/

/-- A sum or difference of two words overflows by less than 2^32, so the sign of the wrapped result is the opposite of
the exact one's, and the bound that replaces the result is the nearest number that a word holds. -/
theorem saturate_eq_clamp {f : Flagged} {n : Int} (hvalue : f.value = BitVec.ofInt 32 n)
    (hov : f.ov = decide ¬Fits n) (hlow : -2 ^ 32 ≤ n) (hhigh : n < 2 ^ 32) :
    saturate f = BitVec.ofInt 32 (clamp n) := by
  have hmsb : f.value.msb = decide (n.bmod (2 ^ 32) < 0) := by
    rw [hvalue, BitVec.msb_eq_toInt, BitVec.toInt_ofInt]
  rw [saturate, hov, hmsb]
  by_cases hfits : Fits n
  · have hclamp : clamp n = n := by unfold clamp; omega
    rw [hclamp, if_neg (fun hover => absurd hfits (of_decide_eq_true hover)), hvalue]
  rw [if_pos (decide_eq_true hfits)]
  by_cases hneg : n < 0
  · have hclamp : clamp n = -2 ^ 31 := by unfold clamp; omega
    have hwrapped : ¬n.bmod (2 ^ 32) < 0 := by rw [Int.bmod]; split <;> omega
    rw [hclamp, if_neg (fun hsign => hwrapped (of_decide_eq_true hsign))]
    rfl
  · have hclamp : clamp n = 2 ^ 31 - 1 := by unfold clamp; omega
    have hwrapped : n.bmod (2 ^ 32) < 0 := by rw [Int.bmod]; split <;> omega
    rw [hclamp, if_pos (decide_eq_true hwrapped)]
    rfl

/-! ### Saturated instructions -/

section
variable {i : Instr} {s : State} {dst : Reg} {len : Nat}

/-- An instruction that saturates a result which stands for the number `n`. -/
theorem saturates {f : Flagged} {n : Int} (hexec : exec i s = .next (s.saturated dst f len))
    (hvalue : f.value = BitVec.ofInt 32 n) (hov : f.ov = decide ¬Fits n) (hlow : -2 ^ 32 ≤ n) (hhigh : n < 2 ^ 32) :
    Saturates i s dst n f.cy len := by
  have hpsw : (s.saturated dst f len).psw = (s.putSat f).psw := State.setReg_psw _ _ _
  have hsat : (s.saturated dst f len).fSAT = (s.fSAT || f.ov) := by
    rw [← s.fSAT_putSat f, State.fSAT, hpsw, State.fSAT]
  have hfalls : Falls len s (s.saturated dst f len) := by
    simp [Falls, State.saturated]
  rw [Saturates, ← saturate_eq_clamp hvalue hov hlow hhigh, ← hov]
  exact ⟨_, hexec, State.holds_move _ _ _ _, (s.flagsAre_putSat f).move dst _ len, hsat, hfalls,
    ((s.onlyRegs_putSat _ f).setReg List.mem_cons_self _).setPc _⟩

theorem saturates_addc {a b : Word} (hexec : exec i s = .next (s.saturated dst (addc a b false) len)) :
    Saturates i s dst (a.toInt + b.toInt) (decide (2 ^ 32 ≤ a.toNat + b.toNat)) len := by
  have ha := a.toInt_lt
  have ha' := a.le_toInt
  have hb := b.toInt_lt
  have hb' := b.le_toInt
  have hexact : a.toInt + b.toInt + false.toNat = a.toInt + b.toInt := Int.add_zero _
  have hvalue := addc_value a b false
  have hov := addc_ov a b false
  rw [hexact] at hvalue hov
  exact saturates hexec hvalue hov (by omega) (by omega)

theorem saturates_subc {a b : Word} (hexec : exec i s = .next (s.saturated dst (subc a b false) len)) :
    Saturates i s dst (a.toInt - b.toInt) (decide (a.toNat < b.toNat)) len := by
  have ha := a.toInt_lt
  have ha' := a.le_toInt
  have hb := b.toInt_lt
  have hb' := b.le_toInt
  exact saturates hexec (subc_value a b) (subc_ov a b) (by omega) (by omega)

end

/-- Settles O25: each instruction saturates a sum or a difference of its two operands. -/
theorem saturatedInstructions : Obligations.SaturatedInstructions := by
  intro s r1 r2 r3 i5 i16 add sub
  exact ⟨saturates_addc rfl, saturates_addc rfl, saturates_addc rfl, saturates_subc rfl, saturates_subc rfl,
    saturates_subc rfl, saturates_subc rfl⟩

/-! ### Logical instructions -/

/-- An instruction that writes the flags of a logical result and moves the result to a register. -/
theorem combines {i : Instr} {s : State} {dst : Reg} {r : Word} {len : Nat}
    (hexec : exec i s = .next (s.logical dst r len)) : Combines i s dst r len :=
  ⟨_, hexec, State.holds_move _ _ _ _, (s.flagsAre_putLogic r).move dst r len, State.falls_move _ _ _ _,
    ((s.onlyRegs_putLogic _ r).setReg List.mem_cons_self r).setPc _⟩

theorem exec_tst (r1 r2 : Reg) (s : State) :
    exec (.tst r1 r2) s = .next ((s.putLogic (s.reg r2 &&& s.reg r1)).advance 2) := rfl

/-- Settles O26: each instruction but TST is a logical result that goes to its register; TST gives the flags alone. -/
theorem logicalInstructions : Obligations.LogicalInstructions := by
  intro s r1 r2 i16
  exact ⟨combines rfl, combines rfl, combines rfl, combines rfl, combines rfl, combines rfl, combines rfl,
    _, exec_tst r1 r2 s, s.flagsAre_putLogic _, rfl, (s.onlyRegs_putLogic [] _).setPc _⟩

end Sys2Proof.Machine
end

section
/-! PROOFS. Shifts, swaps and bit searches (R480 to R513, R527, R528): shifted words as numbers, the bytes of a swapped
word, and the first match of a search (O27, O28). -/
namespace Sys2Proof.Machine

/-! ### Shifts (R527) -/

theorem shiftLeft_eq (a : Word) (n : Nat) :
    shiftLeft a n = ⟨BitVec.ofNat 32 (a.toNat * 2 ^ n), decide (0 < n) && a.toNat.testBit (32 - n)⟩ := by
  rw [← Nat.shiftLeft_eq]
  rfl

theorem shiftRight_eq (a : Word) (n : Nat) :
    shiftRight a n = ⟨BitVec.ofNat 32 (a.toNat / 2 ^ n), decide (0 < n) && a.toNat.testBit (n - 1)⟩ := by
  have hvalue : a >>> n = BitVec.ofNat 32 (a.toNat / 2 ^ n) := by
    rw [← Nat.shiftRight_eq_div_pow, ← BitVec.toNat_ushiftRight, BitVec.ofNat_toNat, BitVec.setWidth_eq]
  rw [← hvalue]
  rfl

/-- The floor of the signed quotient: an arithmetic shift rounds down. -/
theorem shiftArith_eq (a : Word) (n : Nat) :
    shiftArith a n = ⟨BitVec.ofInt 32 (a.toInt / 2 ^ n), decide (0 < n) && a.toNat.testBit (n - 1)⟩ := by
  have hvalue : a.sshiftRight n = BitVec.ofInt 32 (a.toInt / 2 ^ n) := by
    rw [BitVec.sshiftRight, Int.shiftRight_eq_div_pow, Nat.cast_pow, Nat.cast_ofNat]
  rw [← hvalue]
  rfl

theorem shiftCount_eq (w : Word) : shiftCount w = w.toNat % 32 := BitVec.toNat_setWidth 5 w

section
variable {i : Instr} {s : State} {dst : Reg} {a : Word} {n len : Nat}

/-- An instruction that moves a shifted value `v` to a register, with the carry `cy`. -/
theorem shifts {c : Carried} {v : Word} {cy : Bool} (hexec : exec i s = .next (s.shifted dst c len))
    (hc : c = ⟨v, cy⟩) : MovesFlagged i s dst v cy false len := by
  subst hc
  exact movesFlagged hexec

/-- The same for a form whose count is the low 5 bits of a register. -/
theorem shifts_count {shift : Word → Nat → Carried} {w v : Word} {cy : Bool}
    (hexec : exec i s = .next (s.shifted dst (shift a (shiftCount w)) len))
    (hc : shift a (w.toNat % 32) = ⟨v, cy⟩) : MovesFlagged i s dst v cy false len :=
  shifts hexec ((congrArg (shift a) (shiftCount_eq w)).trans hc)

end

/-- Settles O28: each form is a shift by its count, and the shifted word stands for the number of R527. -/
theorem shiftInstructions : Obligations.ShiftInstructions := by
  intro s r1 r2 r3 i5 a n m left right arith
  exact ⟨shifts_count rfl (shiftLeft_eq a n), shifts rfl (shiftLeft_eq a m), shifts_count rfl (shiftLeft_eq a n),
    shifts_count rfl (shiftRight_eq a n), shifts rfl (shiftRight_eq a m), shifts_count rfl (shiftRight_eq a n),
    shifts_count rfl (shiftArith_eq a n), shifts rfl (shiftArith_eq a m), shifts_count rfl (shiftArith_eq a n)⟩

/-! ### Flags before a move -/

section
variable (s : State) (dst : Reg) (v : Word) (len : Nat)

@[simp] theorem State.move_psw : (s.move dst v len).psw = s.psw := State.setReg_psw _ _ _

theorem State.flags_move :
    (s.move dst v len).fCY = s.fCY ∧ (s.move dst v len).fOV = s.fOV ∧ (s.move dst v len).fS = s.fS ∧
      (s.move dst v len).fZ = s.fZ := by
  simp [State.fCY, State.fOV, State.fS, State.fZ]

/-- Four flags are written, whatever they are, and then a value is moved to a register. -/
theorem State.move_putFlags (cy ov sign zero : Bool) :
    let t := (s.putFlags cy ov sign zero).move dst v len
    Holds t dst v ∧ t.fCY = cy ∧ t.fOV = ov ∧ t.fS = sign ∧ t.fZ = zero ∧ Falls len s t ∧
      OnlyRegs [dst] flagsCOSZ s t := by
  obtain ⟨hcy, hov, hs, hz⟩ := (s.putFlags cy ov sign zero).flags_move dst v len
  exact ⟨State.holds_move _ _ _ _, hcy.trans (s.fCY_putFlags ..), hov.trans (s.fOV_putFlags ..),
    hs.trans (s.fS_putFlags ..), hz.trans (s.fZ_putFlags ..), State.falls_move _ _ _ _,
    (((OnlyRegs.refl s _ _).putFlags _ _ _ _).setReg List.mem_cons_self v).setPc _⟩

end

/-! ### Bytes of a word (R480, R481, R499, R500) -/

/-- The bytes of a word that is made of four. -/
theorem byteOf_append (b₃ b₂ b₁ b₀ : Byte) :
    byteOf (b₃ ++ b₂ ++ b₁ ++ b₀) 0 = b₀ ∧ byteOf (b₃ ++ b₂ ++ b₁ ++ b₀) 1 = b₁ ∧
      byteOf (b₃ ++ b₂ ++ b₁ ++ b₀) 2 = b₂ ∧ byteOf (b₃ ++ b₂ ++ b₁ ++ b₀) 3 = b₃ := by
  refine ⟨append_low _ _, ?_, ?_, ?_⟩
  · exact (append_extract_high _ _ (by decide)).trans (append_low _ _)
  · exact (append_extract_high _ _ (by decide)).trans
      ((append_extract_high _ _ (by decide)).trans (append_low _ _))
  · exact (append_extract_high _ _ (by decide)).trans
      ((append_extract_high _ _ (by decide)).trans (append_high _ _))

/-- The bytes of a word that is made of two halfwords. -/
theorem byteOf_append_halves (h₁ h₀ : Half) :
    byteOf (h₁ ++ h₀) 0 = h₀.extractLsb' 0 8 ∧ byteOf (h₁ ++ h₀) 1 = h₀.extractLsb' 8 8 ∧
      byteOf (h₁ ++ h₀) 2 = h₁.extractLsb' 0 8 ∧ byteOf (h₁ ++ h₀) 3 = h₁.extractLsb' 8 8 :=
  ⟨append_extract_low _ _ (by decide), append_extract_low _ _ (by decide), append_extract_high _ _ (by decide),
    append_extract_high _ _ (by decide)⟩

/-- What holds of the four bytes holds of each. -/
theorem forall_lt_four {P : Nat → Prop} (h : P 0 ∧ P 1 ∧ P 2 ∧ P 3) : ∀ k < 4, P k := by
  obtain ⟨h0, h1, h2, h3⟩ := h
  intro k hk
  interval_cases k
  · exact h0
  · exact h1
  · exact h2
  · exact h3

theorem byteOf_swapBytesInHalves (a : Word) :
    ∀ k < 4, byteOf (swapBytesInHalves a) k = byteOf a (if k % 2 = 0 then k + 1 else k - 1) :=
  forall_lt_four (byteOf_append _ _ _ _)

theorem byteOf_swapBytes (a : Word) : ∀ k < 4, byteOf (swapBytes a) k = byteOf a (3 - k) :=
  forall_lt_four (byteOf_append _ _ _ _)

theorem byteOf_swapHalves (a : Word) : ∀ k < 4, byteOf (swapHalves a) k = byteOf a ((k + 2) % 4) := by
  obtain ⟨h0, h1, h2, h3⟩ := byteOf_append_halves (a.extractLsb' 0 16) (a.extractLsb' 16 16)
  exact forall_lt_four ⟨h0.trans (extract_extract a (by decide)), h1.trans (extract_extract a (by decide)),
    h2.trans (extract_extract a (by decide)), h3.trans (extract_extract a (by decide))⟩

/-- A halfword is zero exactly if its two bytes are. -/
theorem half_beq_zero (h : Half) : (h == 0) = (h.extractLsb' 0 8 == 0 && h.extractLsb' 8 8 == 0) := by
  have hparts := parts (k := 8) (l := 8) h
  rw [Bool.eq_iff_iff, Bool.and_eq_true, beq_iff_eq, beq_iff_eq, beq_iff_eq]
  constructor
  · rintro rfl
    exact ⟨rfl, rfl⟩
  · rintro ⟨hlow, hhigh⟩
    rw [← hparts, hlow, hhigh]
    rfl

theorem zeroLow_eq (r : Word) : zeroLow r = (byteOf r 0 == 0 && byteOf r 1 == 0) := by
  rw [zeroLow, half_beq_zero, extract_extract r (by decide), extract_extract r (by decide)]
  rfl

theorem zeroHalf_eq (r : Word) :
    zeroHalf r = ((byteOf r 0 == 0 && byteOf r 1 == 0) || (byteOf r 2 == 0 && byteOf r 3 == 0)) := by
  rw [zeroHalf, zeroLow_eq, half_beq_zero, extract_extract r (by decide), extract_extract r (by decide)]
  rfl

theorem zeroByte_eq (r : Word) :
    zeroByte r = ((byteOf r 0 == 0 || byteOf r 1 == 0) || (byteOf r 2 == 0 || byteOf r 3 == 0)) := Bool.or_assoc _ _ _

/-- An instruction that moves a word `r` to a register and tells of it by CY and Z. -/
theorem rearranges {i : Instr} {s : State} {dst : Reg} {a r : Word} {perm : Nat → Nat} {cy z : Word → Bool}
    {c b : Bool} (hexec : exec i s = .next (s.swapped dst r c b)) (hbytes : ∀ k < 4, byteOf r k = byteOf a (perm k))
    (hcy : c = cy r) (hz : b = z r) : Rearranges i s dst a perm cy z := by
  subst hcy hz
  obtain ⟨hdst, hcy, hov, hs, hrest⟩ := s.move_putFlags dst r 4 (cy r) false r.msb (z r)
  exact ⟨_, hexec, r, hbytes, hdst, hcy, hov, hs.trans (BitVec.msb_eq_getLsbD_last r), hrest⟩

/-! ### Bit searches (R528) -/

/-- The outcome of a search as a move: the result is the position, counted from 1, or 0. -/
theorem State.searched_eq (s : State) (dst : Reg) (o : Option Nat) :
    s.searched dst o =
      (s.putFlags (o.any fun k => !s.cfg.schCyOnlyAtLast || decide (k = 31)) false false o.isNone).move dst
        (BitVec.ofNat 32 (o.elim 0 (· + 1))) 4 := by
  cases o with
  | none => rfl
  | some k => rfl

/-- An instruction that searches for the bit `t`: `hit` says where it stands. -/
theorem searches {i : Instr} {s : State} {dst : Reg} {fromLeft t : Bool} {a : Word} {hit : Nat → Bool}
    (hexec : exec i s = .next (s.searched dst (searchBit fromLeft t a)))
    (hhit : ∀ k, (a.toNat.testBit (if fromLeft then 31 - k else k) == t) = hit k) : Searches i s dst hit := by
  have hsearch : searchBit fromLeft t a = (List.range 32).find? hit := congrArg (List.find? · _) (funext hhit)
  rw [hsearch, State.searched_eq] at hexec
  obtain ⟨hdst, hcy, hov, hs, hz, hframe⟩ := s.move_putFlags dst _ 4 _ false false _
  refine ⟨_, hexec, fun hnone => ?_, fun k hk hfirst hbefore => ?_, hov, hs, hframe⟩
  · have hfind : (List.range 32).find? hit = none :=
      List.find?_eq_none.2 fun k hk => Bool.not_eq_true _ ▸ hnone k (List.mem_range.1 hk)
    rw [hfind] at hdst hcy hz ⊢
    exact ⟨hdst, hcy, hz⟩
  · have hfind : (List.range 32).find? hit = some k :=
      List.find?_range_eq_some.2 ⟨hfirst, List.mem_range.2 hk, fun j hj => congrArg not (hbefore j hj)⟩
    rw [hfind] at hdst hcy hz ⊢
    exact ⟨hdst, hcy, hz⟩

/-- Settles O27: each swap is a rearrangement of bytes, and each search finds the first position of its order. -/
theorem swapAndSearchInstructions : Obligations.SwapAndSearchInstructions := by
  intro s r2 r3 low high lowHalf highHalf a
  exact ⟨rearranges rfl (byteOf_swapBytesInHalves a) rfl (zeroLow_eq _),
    rearranges rfl (byteOf_swapBytes a) (zeroByte_eq _) rfl, rearranges rfl (byteOf_swapHalves a) (zeroHalf_eq _) rfl,
    rearranges rfl (fun _ _ => rfl) (zeroLow_eq a) (zeroLow_eq a), searches rfl fun _ => beq_false _,
    searches rfl fun _ => beq_true _, searches rfl fun _ => beq_false _, searches rfl fun _ => beq_true _⟩

end Sys2Proof.Machine
end

section
/-! PROOFS. Divisions (R520 to R526, R529): what a division does to the state in each of its three cases, and the
quotient and remainder as numbers (O29). -/
namespace Sys2Proof.Machine

/-! ### The state after a division -/

/-- What every division writes: OV, S and Z, and then its results. -/
def State.putDivision (s : State) (ov sign zero : Bool) (reg2 : Reg) (reg3 : Option Reg) (q m : Word) (len : Nat) :
    State :=
  ((s.putOSZ ov sign zero).putQuotient reg2 reg3 q m).advance len

section
variable (s : State) (signed : Bool) (n : Int) (reg2 : Reg) (reg3 : Option Reg) (len : Nat)

/-- By zero, four free values are used (U21). -/
theorem State.divide_zero :
    s.divide signed n 0 reg2 reg3 len =
      State.putDivision { s with free := s.free + 4 } true (freeBit s.free) (freeBit (s.free + 1)) reg2 reg3
        (freeWord (s.free + 2)) (freeWord (s.free + 3)) len := if_pos rfl

variable {d : Int} (hd : d ≠ 0)
include hd

/-- Into one register, two free values are used, for S and Z (U22). -/
theorem State.divide_same :
    s.divide signed n d reg2 (some reg2) len =
      State.putDivision { s with free := s.free + 2 } (signed && decide (n.tdiv d = 2 ^ 31)) (freeBit s.free)
        (freeBit (s.free + 1)) reg2 (some reg2) (BitVec.ofInt 32 (n.tdiv d)) (BitVec.ofInt 32 (n.tmod d)) len :=
  (if_neg hd).trans (if_pos rfl)

theorem State.divide_distinct {reg3 : Option Reg} (hreg : reg3 ≠ some reg2) :
    s.divide signed n d reg2 reg3 len =
      s.putDivision (signed && decide (n.tdiv d = 2 ^ 31)) (BitVec.ofInt 32 (n.tdiv d)).msb
        (BitVec.ofInt 32 (n.tdiv d) == 0) reg2 reg3 (BitVec.ofInt 32 (n.tdiv d)) (BitVec.ofInt 32 (n.tmod d)) len :=
  (if_neg hd).trans (if_neg hreg)

end

section
variable (s : State) (ov sign zero : Bool) (reg2 : Reg) (reg3 : Option Reg) (q m : Word) (len : Nat)

theorem State.putDivision_psw :
    (s.putDivision ov sign zero reg2 reg3 q m len).psw = (s.putOSZ ov sign zero).psw := State.putQuotient_psw _ _ _ _ _

theorem State.fOV_putDivision : (s.putDivision ov sign zero reg2 reg3 q m len).fOV = ov := by
  rw [State.fOV, State.putDivision_psw]
  exact s.fOV_putOSZ ov sign zero

theorem State.flagsAre_putDivision :
    FlagsAre (s.putDivision ov q.msb (q == 0) reg2 reg3 q m len) s.fCY ov q := by
  have hflags : FlagsAre (s.putOSZ ov q.msb (q == 0)) s.fCY ov q :=
    ⟨State.fCY_putOSZ .., State.fOV_putOSZ .., (State.fS_putOSZ ..).trans BitVec.msb_eq_toInt, State.fZ_putOSZ ..⟩
  simpa only [FlagsAre, State.fCY, State.fOV, State.fS, State.fZ, State.putDivision_psw] using hflags

theorem State.falls_putDivision : Falls len s (s.putDivision ov sign zero reg2 reg3 q m len) := by
  simp [Falls, State.putDivision]

/-- Listed registers may hold the results. -/
theorem OnlyRegs.putQuotient {ds : List Reg} {mask : Word} {s t : State} (h : OnlyRegs ds mask s t)
    (hds : reg2 :: reg3.toList ⊆ ds) : OnlyRegs ds mask s (t.putQuotient reg2 reg3 q m) := by
  have hquotient := h.setReg (hds List.mem_cons_self) q
  cases reg3 with
  | none => exact hquotient
  | some r => exact hquotient.setReg (hds (List.mem_cons_of_mem _ List.mem_cons_self)) m

theorem State.onlyRegs_putDivision {ds : List Reg} (hds : reg2 :: reg3.toList ⊆ ds) :
    OnlyRegs ds flagsOSZ s (s.putDivision ov sign zero reg2 reg3 q m len) :=
  have hflags : OnlyRegs ds flagsOSZ s (s.putOSZ ov sign zero) :=
    (OnlyRegs.refl s _ _).psw (s.psw_putOSZ _ _ _ (~~~flagsOSZ) rfl)
  (hflags.putQuotient reg2 reg3 q m hds).setPc _

/-- The number of free values used is no part of the frame. -/
theorem OnlyRegs.of_free {ds : List Reg} {mask : Word} {s t : State} {k : Nat}
    (h : OnlyRegs ds mask { s with free := k } t) : OnlyRegsFree ds mask s t := h.onlyRegsFree

/-- Two registers hold both results. -/
theorem State.quotientIn_putDivision (hreg : reg3 ≠ some reg2) :
    QuotientIn (s.putDivision ov sign zero reg2 reg3 q m len) reg2 reg3 q m := by
  cases reg3 with
  | none => exact State.holds_move _ reg2 q len
  | some r =>
    have hne : reg2 ≠ r := fun h => hreg (congrArg some h.symm)
    exact ⟨((State.holds_setReg _ reg2 q).setReg hne m :), State.holds_move _ r m len⟩

/-- One register holds the remainder, which is written last. -/
theorem State.holds_putDivision_same :
    Holds (s.putDivision ov sign zero reg2 (some reg2) q m len) reg2 m := State.holds_move _ reg2 m len

end

/-! ### Quotients and remainders (D53) -/

/-- The remainder of a truncated division has the sign of the dividend and is nearer to 0 than the divisor. -/
theorem tdiv_tmod_spec (n : Int) {d : Int} (hd : d ≠ 0) :
    n = n.tdiv d * d + n.tmod d ∧ |n.tmod d| < |d| ∧ (0 < n.tmod d → 0 < n) ∧ (n.tmod d < 0 → n < 0) := by
  refine ⟨(Int.tdiv_mul_add_tmod n d).symm, ?_, fun hpos => ?_, fun hneg => ?_⟩
  · have habs : (n.tmod d).natAbs < d.natAbs := by
      rw [Int.natAbs_tmod]
      exact Nat.mod_lt _ (Int.natAbs_pos.2 hd)
    rw [Int.abs_eq_natAbs, Int.abs_eq_natAbs]
    exact Nat.cast_lt.2 habs
  · by_contra hn
    have hopposite := Int.tmod_nonneg d (show 0 ≤ -n by omega)
    rw [Int.neg_tmod] at hopposite
    omega
  · by_contra hn
    exact absurd (Int.tmod_nonneg d (not_lt.1 hn)) (not_le.2 hneg)

/-- The only quotient of a word that no signed word holds is 2^31. -/
theorem tdiv_eq_overflow {n : Int} (hn : Fits n) (d : Int) : n.tdiv d = 2 ^ 31 ↔ ¬Fits (n.tdiv d) := by
  have hle := Int.natAbs_tdiv_le_natAbs n d
  omega

theorem signed_overflow {signed : Bool} {n : Int} (hn : signed = true → Fits n) (d : Int) :
    (signed && decide (n.tdiv d = 2 ^ 31)) = (signed && decide ¬Fits (n.tdiv d)) := by
  cases signed with
  | false => rfl
  | true => rw [decide_eq_decide.2 (tdiv_eq_overflow (hn rfl) d)]

/-! ### Division instructions -/

section
variable {i : Instr} {s : State} {signed : Bool} {n d : Int} {reg2 reg3 : Reg} {len : Nat}

/-- An instruction that divides `n`, which fits a word if it is signed, by `d`. -/
theorem divides {reg3 : Option Reg} (hn : signed = true → Fits n)
    (hexec : exec i s = .next (s.divide signed n d reg2 reg3 len)) : Divides i s signed n d reg2 reg3 len := by
  intro hd hreg
  obtain ⟨hsum, habs, hpos, hneg⟩ := tdiv_tmod_spec n hd
  rw [State.divide_distinct (hd := hd) (hreg := hreg), signed_overflow hn] at hexec
  exact ⟨_, hexec, n.tdiv d, n.tmod d, hsum, habs, hpos, hneg, State.quotientIn_putDivision (hreg := hreg) ..,
    State.flagsAre_putDivision .., State.falls_putDivision ..,
    State.onlyRegs_putDivision (hds := List.Subset.refl _) ..⟩

/-- The divisor may be told from zero by another number. -/
theorem dividesByZero {reg3 : Option Reg} {d' : Int} (hd' : d' = 0 → d = 0)
    (hexec : exec i s = .next (s.divide signed n d reg2 reg3 len)) : DividesByZero i s d' reg2 reg3 len := by
  intro hzero
  rw [hd' hzero, State.divide_zero] at hexec
  exact ⟨_, hexec, State.fOV_putDivision .., State.falls_putDivision .., 
    (State.onlyRegs_putDivision (hds := List.Subset.refl _) ..).of_free⟩

theorem dividesIntoOne (hn : signed = true → Fits n)
    (hexec : exec i s = .next (s.divide signed n d reg2 (some reg3) 4)) : DividesIntoOne i s signed n d reg2 reg3 := by
  rintro hd rfl
  obtain ⟨hsum, habs, hpos, hneg⟩ := tdiv_tmod_spec n hd
  rw [State.divide_same (hd := hd), signed_overflow hn] at hexec
  exact ⟨_, hexec, n.tdiv d, n.tmod d, hsum, habs, hpos, hneg, State.holds_putDivision_same ..,
    State.fOV_putDivision .., State.falls_putDivision ..,
    (State.onlyRegs_putDivision (hds := by simp) ..).of_free⟩

end

/-! ### Halfword divisors -/

theorem toInt_sextH (w : Word) : (sextH w).toInt = (w.setWidth 16).toInt :=
  BitVec.toInt_signExtend_of_le (by decide)

theorem toNat_zextH (w : Word) : ((zextH w).toNat : Int) = w.toNat % 65536 := by
  rw [zextH, BitVec.toNat_setWidth_of_le (by decide), BitVec.toNat_setWidth]
  rfl

/-- The divisor of DIVH is the signed halfword (R521, R522). -/
theorem exec_divh (r1 r2 r3 : Reg) (s : State) :
    exec (.divh r1 r2 r3) s =
      .next (s.divide true (s.reg r2).toInt ((s.reg r1).setWidth 16).toInt r2 (some r3) 4) := by
  rw [← toInt_sextH]
  rfl

theorem exec_divhReg (r1 r2 : Reg) (s : State) :
    exec (.divhReg r1 r2) s =
      .next (s.divide true (s.reg r2).toInt ((s.reg r1).setWidth 16).toInt r2 none 2) := by
  rw [← toInt_sextH]
  rfl

/-- The divisor of DIVHU is the unsigned halfword (R523). -/
theorem exec_divhu (r1 r2 r3 : Reg) (s : State) :
    exec (.divhu r1 r2 r3) s =
      .next (s.divide false (s.reg r2).toNat ((s.reg r1).toNat % 65536) r2 (some r3) 4) := by
  rw [← toNat_zextH]
  rfl

/-- Settles O29: each instruction is the common division of its page's operands, which has three cases. -/
theorem divideInstructions : Obligations.DivideInstructions := by
  intro s r1 r2 r3 n nu h hu
  have hn : true = true → Fits n := fun _ => ⟨(s.reg r2).le_toInt, (s.reg r2).toInt_lt⟩
  have hnu : false = true → Fits nu := nofun
  have hzero : (s.reg r1).toInt = 0 → ((s.reg r1).toNat : Int) = 0 := fun hw =>
    congrArg (fun w : Word => (w.toNat : Int)) (BitVec.eq_of_toInt_eq (hw.trans BitVec.toInt_zero.symm))
  exact ⟨divides hn rfl, divides hn rfl, divides hnu rfl, divides hnu rfl, divides hn (exec_divh r1 r2 r3 s),
    divides hn (exec_divhReg r1 r2 s), divides hnu (exec_divhu r1 r2 r3 s),
    dividesByZero id rfl, dividesByZero id rfl, dividesByZero hzero rfl, dividesByZero hzero rfl,
    dividesByZero id (exec_divh r1 r2 r3 s), dividesByZero id (exec_divhu r1 r2 r3 s),
    dividesByZero id (exec_divhReg r1 r2 s),
    dividesIntoOne hn rfl, dividesIntoOne hn rfl, dividesIntoOne hnu rfl, dividesIntoOne hnu rfl,
    dividesIntoOne hn (exec_divh r1 r2 r3 s), dividesIntoOne hnu (exec_divhu r1 r2 r3 s)⟩

end Sys2Proof.Machine
end

section
/-! PROOFS. Branches, table jumps and bit instructions (R540 to R558, R581, R612): the jump and the jump that links, and
what a test or a change of one bit of memory leaves (O30, O31). -/
namespace Sys2Proof.Machine

/-! ### Jumps (R540 to R547) -/

section
variable {i : Instr} {s : State} {a a' : Word}

/-- An instruction that goes to `a'`, where this is `a` by another name. -/
theorem goesTo (hexec : exec i s = .next (s.setPc a')) (ha : a' = a) :
    Gives i s fun t => t.pc = pcValue s.cfg a ∧ OnlyRegs [] 0 s t := by
  subst ha
  exact ⟨_, hexec, rfl, (OnlyRegs.refl s _ _).setPc _⟩

/-- As `goesTo`, with a link left in a register. -/
theorem linksAndGoesTo {r : Reg} {v : Word} (hexec : exec i s = .next ((s.setReg r v).setPc a')) (ha : a' = a) :
    Gives i s fun t => Holds t r v ∧ t.pc = pcValue s.cfg a ∧ OnlyRegs [r] 0 s t := by
  subst ha
  have hlink : OnlyRegs [r] 0 s (s.setReg r v) := (OnlyRegs.refl s _ _).setReg List.mem_cons_self v
  refine ⟨_, hexec, s.holds_setReg r v, ?_, hlink.setPc _⟩
  rw [State.setPc_pc, hlink.cfg]

end

/-- A conditional branch goes to one of its two targets (R540). -/
theorem exec_bcond (cc : BitVec 4) (d : BitVec 8) (s : State) :
    exec (.bcond cc d) s = .next (s.setPc (if cond cc s then s.pc + sext (even d) else s.pc + 2)) := by
  rw [exec, execBcond]
  split
  · rfl
  · rfl

/-- A 32-bit displacement without its bit 0 stands for twice its number. -/
theorem even_eq_ofNat (d : BitVec 31) : even d = BitVec.ofNat 32 (2 * d.toNat) :=
  (BitVec.setWidth_eq (even d)).symm.trans (zext_even d)

/-! ### Table jumps (R581, R612) -/

/-- CALLT by an entry in memory saves its context and goes by the entry (R581). -/
theorem callt_reaches {s : State} {imm6 : BitVec 6} {c : Word} (hc : s.main.ctbp + zext (even imm6) = c)
    (h : s.reaches c 2 false false) :
    Gives (.callt imm6) s fun t =>
      t.main = { s.main with ctpc := limitAddr s.cfg (s.pc + 2), ctpsw := s.psw } ∧
      t.pc = pcValue s.cfg (s.main.ctbp + s.bytesAt c 2) ∧ t.psw = s.psw ∧ SameRegsBut [] s t ∧ SameMem s t ∧
      t.prot = s.prot ∧ t.tsu = s.tsu ∧ t.ppu = s.ppu ∧ t.fpu = s.fpu ∧ SameRest s t := by
  refine ⟨_, by rw [exec, execCallt, hc, State.load_reaches h, Acc.finish_ok, State.zextH_bytesAt], ?_⟩
  exact ⟨rfl, rfl, rfl, fun _ _ => State.reg_congr rfl _, fun _ => rfl, rfl, rfl, rfl, rfl, rfl, rfl, rfl, rfl, rfl⟩

/-- A signed halfword, doubled, as SWITCH adds it (R612). -/
theorem sextH_shiftLeft_one (w : Word) : sextH w <<< 1 = BitVec.ofInt 32 (2 * (w.setWidth 16).toInt) := by
  rw [BitVec.shiftLeft_eq_mul_twoPow]
  apply BitVec.eq_of_toInt_eq
  rw [BitVec.toInt_mul, toInt_sextH, BitVec.toInt_ofInt, Int.mul_comm]
  rfl

/-- SWITCH by an entry in memory is a jump (R612). -/
theorem exec_switch_of_reaches {s : State} {r : Reg} {w : Word} (hw : s.pc + 2 + s.reg r <<< 1 = w)
    (h : s.reaches w 2 false false) :
    exec (.switch r) s = .next (s.setPc (s.pc + 2 + sextH (s.bytesAt w 2) <<< 1)) := by
  rw [exec, execSwitch, hw, State.load_reaches h, Acc.finish_ok]

/-- Settles O30: each instruction is a jump to its target, with or without a link, or by a table entry. -/
theorem branchInstructions : Obligations.BranchInstructions := by
  intro s r1 r2 cc d8 d21 d31 i6 goes links c w
  have hdisp22 : s.pc + sext (even d21) = s.pc + BitVec.ofInt 32 (2 * d21.toInt) := congrArg (s.pc + ·) (sext_even d21)
  have hdisp32 (base : Word) : base + even d31 = base + BitVec.ofNat 32 (2 * d31.toNat) :=
    congrArg (base + ·) (even_eq_ofNat d31)
  refine ⟨goesTo (exec_bcond cc d8 s) ?_, goesTo rfl hdisp22, goesTo rfl (hdisp32 s.pc), goesTo rfl rfl,
    goesTo rfl (hdisp32 (s.reg r1)), linksAndGoesTo rfl hdisp22, linksAndGoesTo rfl (hdisp32 s.pc),
    callt_reaches (congrArg (s.main.ctbp + ·) (zext_even i6)), fun hreach => ?_⟩
  · rw [sext_even d8]
  · have hw : s.pc + 2 + s.reg r1 <<< 1 = w := congrArg (s.pc + 2 + ·) (shiftLeft_one _)
    exact goesTo (exec_switch_of_reaches hw hreach) (congrArg (s.pc + 2 + ·) (sextH_shiftLeft_one _))

/-! ### Z alone (R558) -/

theorem OnlyRegs.putZ {ds : List Reg} {s t : State} (h : OnlyRegs ds 1 s t) (z : Bool) : OnlyRegs ds 1 s (t.putZ z) :=
  h.psw (and_putBit t.psw _ 0 z rfl)

theorem OnlyMem.putZ {a : Word} {n : Nat} {ds : List Reg} {s t : State} (h : OnlyMem a n ds 1 s t) (z : Bool) :
    OnlyMem a n ds 1 s (t.putZ z) := by
  obtain ⟨hregs, hpsw, hrest⟩ := h
  exact ⟨hregs, (and_putBit t.psw _ 0 z rfl).trans hpsw, hrest⟩

/-! ### One bit of a byte -/

/-- The one byte that is read. -/
theorem State.byteOf_bytesAt_one (s : State) (a : Word) : byteOf (s.bytesAt a 1) 0 = s.mem.read a.toNat := by
  apply BitVec.eq_of_getLsbD_eq
  intro j hj
  rw [byteOf, BitVec.getLsbD_extractLsb', Nat.mul_zero, Nat.zero_add, State.getLsbD_bytesAt_one, decide_eq_true hj,
    Bool.true_and]

section
variable (w : Word) (n : Nat)

theorem byteOf_bitAt : byteOf (bitAt n) 0 = 1#8 <<< n := by
  rw [byteOf_eq, Nat.mul_zero, BitVec.ushiftRight_zero, bitAt, BitVec.setWidth_shiftLeft_of_le (by decide)]
  rfl

theorem byteOf_or_bitAt : byteOf (w ||| bitAt n) 0 = byteOf w 0 ||| 1#8 <<< n := by
  rw [← byteOf_bitAt]
  exact BitVec.extractLsb'_or

theorem byteOf_and_not_bitAt : byteOf (w &&& ~~~bitAt n) 0 = byteOf w 0 &&& ~~~(1#8 <<< n) := by
  rw [← byteOf_bitAt, byteOf, BitVec.extractLsb'_and, BitVec.extractLsb'_not_of_lt (by decide)]
  rfl

theorem byteOf_xor_bitAt : byteOf (w ^^^ bitAt n) 0 = byteOf w 0 ^^^ 1#8 <<< n := by
  rw [← byteOf_bitAt]
  exact BitVec.extractLsb'_xor

end

/-! ### Bit instructions -/

section
variable {i : Instr} {s : State} {a : Word} {sp : Bool} {bit : Nat}

/-- A change of a byte: `f` of the word that is read does `g` to its lowest byte. -/
theorem modifiesBit {f : Word → Word} {g : Byte → Byte} (hexec : exec i s = s.bitModify a sp bit f)
    (hf : ∀ w, byteOf (f w) 0 = g (byteOf w 0)) : ModifiesBit i s a sp bit g := by
  intro hread hwrite
  have honly : OnlyMem a 1 [] 1 s (s.stored a (f (s.bytesAt a 1)) 1) := OnlyMem.of_mem (s.sameMemBut_stored a _ 1)
  have hbyte : (s.stored a (f (s.bytesAt a 1)) 1).mem.read a.toNat = g (s.mem.read a.toNat) := by
    rw [← s.byteOf_bytesAt_one, ← hf, ← s.read_stored a _ Nat.one_pos (by decide)]
    simp
  rw [State.bitModify, State.modify_reaches hread hwrite, Acc.finish_ok, if_pos rfl, State.getLsbD_bytesAt_one] at hexec
  exact ⟨_, hexec, State.fZ_putZ _ _, hbyte, rfl, honly.putZ _⟩

theorem testsBit (hexec : exec i s = s.bitTest a sp bit) : TestsBit i s a sp bit := by
  intro hread
  rw [State.bitTest, State.load_reaches hread, Acc.finish_ok, State.getLsbD_bytesAt_one] at hexec
  exact ⟨_, hexec, State.fZ_putZ _ _, rfl, ((OnlyRegs.refl s _ _).putZ _).setPc _⟩

end

/-- Settles O31: each instruction tests or changes its bit; a register names a bit by its lowest three bits. -/
theorem bitInstructions : Obligations.BitInstructions := by
  intro s r1 r2 b d a sp n m
  have hm : m = ((s.reg r2).setWidth 3).toNat := (bitNumber_eq _).symm
  rw [hm]
  exact ⟨modifiesBit rfl (byteOf_or_bitAt · _), modifiesBit rfl (byteOf_and_not_bitAt · _),
    modifiesBit rfl (byteOf_xor_bitAt · _), testsBit rfl, modifiesBit rfl (byteOf_or_bitAt · _),
    modifiesBit rfl (byteOf_and_not_bitAt · _), modifiesBit rfl (byteOf_xor_bitAt · _), testsBit rfl⟩

end Sys2Proof.Machine
end


section
/-! PROOFS. The HALT state (O10) and the instructions that return from a handler (O40). -/
namespace Sys2Proof.Machine

/-! ### The HALT state (R594) -/

/-- A request that releases the HALT state makes the boundary an ordinary one (R594). -/
theorem step_of_released {s : State} (hhalt : s.halted = true) (hreset : s.input.reset = false)
    (hrelease : (s.dropInput.requests s.input).any Request.releases = true) :
    step s = tickOutcome s.input (State.boundary exec s.input { s.dropInput with halted := false }) := by
  rw [step, State.stepWith, hreset, hrelease, State.dropInput_halted, hhalt]
  rfl

/-- Settles O10: a waiting step only counts, and a released one is a boundary of a machine that is not halted. -/
theorem haltWaits : Obligations.HaltWaits := by
  intro s hhalt hreset
  refine ⟨fun hwait => ?_, step_of_released hhalt hreset⟩
  exact ⟨_, step_of_waiting hhalt hreset hwait, hhalt, rfl, rfl,
    fun r _ => (State.reg_tick _ _ r).trans (s.reg_dropInput r), fun _ => rfl, rfl, rfl, rfl, rfl, rfl⟩

/-! ### Returns (R605, R1023, R1024) -/

theorem State.reportEnd_eq (s : State) :
    s.reportEnd = { s with reports := if !s.fEP then .endOfHandler :: s.reports else s.reports } := by
  rw [State.reportEnd]
  cases s.fEP
  · rfl
  · rfl

/-- An instruction that reports, if asked, and returns by a pair of registers; the counters may change. -/
theorem returns_of_returnTo {i : Instr} {s : State} {pc psw : Word} {report : Bool} {c : TsuRegs}
    (hexec : exec i s = .next { State.returnTo
      { s with reports := if report then .endOfHandler :: s.reports else s.reports } pc psw with tsu := c }) :
    Returns i s pc psw report :=
  ⟨_, hexec, rfl, State.putPsw_psw _ psw, rfl, fun r _ => State.reg_congr rfl r, fun _ => rfl, rfl, rfl, rfl, rfl, rfl,
    rfl, rfl⟩

/-- RETI by the FE pair: NP = 1 and EP = 0 (R601). -/
theorem returns_reti_fe {s : State} (h : (s.fNP && !s.fEP) = true) :
    Returns .reti s s.main.fepc s.main.fepsw (!s.fEP) := by
  have hexec : exec .reti s = .next (s.reportEnd.returnTo s.main.fepc s.main.fepsw) := if_pos h
  rw [State.reportEnd_eq] at hexec
  exact returns_of_returnTo hexec

/-- RETI by the EI pair: else (R601). -/
theorem returns_reti_ei {s : State} (h : ¬(s.fNP && !s.fEP) = true) :
    Returns .reti s s.main.eipc s.main.eipsw (!s.fEP) := by
  have hexec : exec .reti s = .next (s.reportEnd.returnTo s.main.eipc s.main.eipsw) := if_neg h
  rw [State.reportEnd_eq] at hexec
  exact returns_of_returnTo hexec

theorem returns_eiret (s : State) : Returns .eiret s s.main.eipc s.main.eipsw (!s.fEP) := by
  have hexec : exec .eiret s = .next ((s.reportEnd.returnTo s.main.eipc s.main.eipsw).tsuLeave .ei) := rfl
  rw [State.reportEnd_eq] at hexec
  exact returns_of_returnTo hexec

theorem returns_feret (s : State) : Returns .feret s s.main.fepc s.main.fepsw (!s.fEP) := by
  have hexec : exec .feret s = .next ((s.reportEnd.returnTo s.main.fepc s.main.fepsw).tsuLeave .fe) := rfl
  rw [State.reportEnd_eq] at hexec
  exact returns_of_returnTo hexec

/-- Settles O40: each instruction returns by its pair, RETI by the one that NP and EP select. -/
theorem returnInstructions : Obligations.ReturnInstructions := by
  intro s
  refine ⟨returns_eiret s, returns_feret s, ?_, returns_of_returnTo rfl⟩
  split
  case isTrue h =>
    obtain ⟨-, hep⟩ := Bool.and_eq_true_iff.1 h
    rw [← hep]
    exact returns_reti_fe h
  case isFalse h => exact returns_reti_ei h

end Sys2Proof.Machine
end

section
/-! PROOFS. Accesses that memory protection does not permit: the cause of each, the state of the MDP exception, and what
PREPARE and DISPOSE have done before it (O34). -/
namespace Sys2Proof.Machine

/-! ### The cause (R883) -/

theorem misaligned_one (a : Word) : misaligned a 1 = false := by
  rw [misaligned, Nat.mod_one]
  rfl

theorem misaligned_wordAligned (a : Word) : misaligned (wordAligned a) 4 = false := by
  rw [misaligned, toNat_wordAligned, Nat.mul_mod_right]
  rfl

/-- The cause of a read or a write, as the table of R883 has it. -/
theorem mdpCause_access (a : Word) (n : Nat) (write sp : Bool) : mdpCause a n write false sp =
    if a.toNat % n = 0 then if write then if sp then 0x18 else 0x08 else if sp then 0x14 else 0x04
    else if write then if sp then 0x58 else 0x48 else if sp then 0x54 else 0x44 := by
  rw [mdpCause, misaligned]
  by_cases h : a.toNat % n = 0
  · rw [if_pos h, h]
    cases write <;> cases sp <;> rfl
  · rw [if_neg h, bne_iff_ne.2 h]
    cases write <;> cases sp <;> rfl

/-- The cause of a read-modify-write at an aligned address. -/
theorem mdpCause_rmw {a : Word} {n : Nat} (h : misaligned a n = false) (sp : Bool) :
    mdpCause a n false true sp = if sp then 0x34 else 0x24 := by
  rw [mdpCause, h]
  cases sp <;> rfl

/-- The cause of a register list's access, through sp at a word address. -/
theorem mdpCause_word (a : Word) (write : Bool) :
    mdpCause (wordAligned a) 4 write false true = if write then 0x18 else 0x14 := by
  rw [mdpCause, misaligned_wordAligned]
  cases write <;> rfl

/-! ### One access (R873, R878, R882) -/

section
variable {i : Instr} {s : State} {a a' v : Word} {n : Nat} {sp : Bool} {ext f : Word → Word}

theorem State.loadAs_forbidden (h : s.permits a n false sp = false) :
    s.loadAs a n sp ext = .trap (s.raiseMdp a (mdpCause a n false false sp)) := if_neg (ne_true_of_eq_false h)

theorem State.store_forbidden (h : s.permits a n true sp = false) :
    s.store a v n sp = .trap (s.raiseMdp a (mdpCause a n true false sp)) := if_neg (ne_true_of_eq_false h)

theorem State.modify_forbidden (h : (s.permits a n false sp && s.permits a n true sp) = false) :
    s.modify a n sp f = .trap (s.raiseMdp a (mdpCause a n false true sp)) := if_neg (ne_true_of_eq_false h)

/-- An instruction whose one access is a read at `a'`, where this is `a` by another name. -/
theorem trapsRead {g : Word → State → State} (hexec : exec i s = (s.loadAs a' n sp ext).finish g) (ha : a' = a) :
    Traps i s a n false sp := by
  subst ha
  intro h
  rw [hexec, State.loadAs_forbidden h, Acc.finish_trap, mdpCause_access]

/-- An instruction whose one access is a write at `a'`, where this is `a` by another name. -/
theorem trapsWrite {g : Unit → State → State} (hexec : exec i s = (s.store a' v n sp).finish g) (ha : a' = a) :
    Traps i s a n true sp := by
  subst ha
  intro h
  rw [hexec, State.store_forbidden h, Acc.finish_trap, mdpCause_access]

theorem trapsRmw {g : Word × Bool → State → State} (hexec : exec i s = (s.modify a n sp f).finish g)
    (haligned : misaligned a n = false) : TrapsRmw i s a n sp := by
  intro h
  rw [hexec, State.modify_forbidden h, Acc.finish_trap, mdpCause_rmw haligned]

end

/-! ### The MDP exception (R882) -/

theorem State.entersMdp_raiseMdp (s : State) (a cause : Word) : EntersMdp s (s.raiseMdp a cause) a cause := by
  refine ⟨State.takeException_prot _ _ _, State.enter_main_fe _ _ _ rfl, ?_, State.takeException_pc _ _ _,
    s.raiseMdp_ppu _ _, s.raiseMdp_fpu _ _, s.raiseMdp_halted _ _, s.raiseMdp_inputs _ _, s.raiseMdp_stopAfter _ _,
    s.raiseMdp_reports _ _, s.raiseMdp_cfg _ _⟩
  rw [State.raiseMdp, State.takeException_psw, State.enter_psw]
  rfl

theorem State.reg_raiseMdp (s : State) (a cause : Word) (r : Reg) : (s.raiseMdp a cause).reg r = s.reg r :=
  State.reg_congr (s.raiseMdp_regs a cause) r

/-- The exception leaves memory alone. -/
theorem State.bytesAt_raiseMdp (s : State) (a cause b : Word) (n : Nat) :
    (s.raiseMdp a cause).bytesAt b n = s.bytesAt b n :=
  State.bytesAt_congr fun _ _ => by rw [State.raiseMdp_mem]

/-! ### Register lists up to an access -/

theorem Acc.bind_assoc {α β γ : Type} (x : Acc α) (f : α → State → Acc β) (g : β → State → Acc γ) :
    (x.bind f).bind g = x.bind fun a s => (f a s).bind g := by
  cases x with
  | ok a s => rfl
  | trap s => rfl
  | refused r => rfl

/-- PREPARE's stores, one list after another. -/
theorem State.pushRegs_append (s : State) (adr : Word) (xs ys : List Reg) :
    s.pushRegs adr (xs ++ ys) = (s.pushRegs adr xs).bind fun adr s => s.pushRegs adr ys := by
  induction xs generalizing s adr with
  | nil => rfl
  | cons x xs ih => simp only [List.cons_append, State.pushRegs, Acc.bind_assoc, ih]

/-- DISPOSE's loads, one list after another. -/
theorem State.popRegs_append (s : State) (adr : Word) (xs ys : List Reg) :
    s.popRegs adr (xs ++ ys) = (s.popRegs adr xs).bind fun adr s => s.popRegs adr ys := by
  induction xs generalizing s adr with
  | nil => rfl
  | cons x xs ih => simp only [List.cons_append, State.popRegs, Acc.bind_assoc, ih]

/-- Stores of which number `k` is the first not permitted: those before it are done, and MDP is taken (R879). -/
theorem State.pushRegs_traps (s : State) (adr : Word) (rs : List Reg) {k : Nat} (hk : k < rs.length) (hk' : k < 2 ^ 30)
    (hreach : ∀ j < k, s.reaches (wordAligned (adr - 4 * BitVec.ofNat 32 (j + 1))) 4 true true)
    (hforbid : s.permits (wordAligned (adr - 4 * BitVec.ofNat 32 (k + 1))) 4 true true = false) :
    ∃ m, s.pushRegs adr rs = .trap (State.raiseMdp { s with mem := m }
        (wordAligned (adr - 4 * BitVec.ofNat 32 (k + 1))) 0x18) ∧
      (∀ j (h : j < rs.length), j < k →
        State.bytesAt { s with mem := m } (wordAligned (adr - 4 * BitVec.ofNat 32 (j + 1))) 4 = s.reg rs[j]) ∧
      SameMemBut (wordAligned (adr - 4 * BitVec.ofNat 32 k)) (4 * k) s { s with mem := m } := by
  have hlen : (rs.take k).length = k := List.length_take_of_le hk.le
  have hsplit : rs.take k ++ rs[k] :: rs.drop (k + 1) = rs := by
    rw [← List.drop_eq_getElem_cons hk, List.take_append_drop]
  obtain ⟨m, hpush, hwords, hsame⟩ := s.pushRegs_reaches adr (rs.take k) (by rwa [hlen]) (by rwa [hlen])
  rw [hlen] at hpush hsame
  have hadr : adr - 4 * BitVec.ofNat 32 k - 4 = adr - 4 * BitVec.ofNat 32 (k + 1) := by
    rw [four_mul_succ, BitVec.sub_sub, BitVec.add_comm]
  have hforbid' : State.permits { s with mem := m } (wordAligned (adr - 4 * BitVec.ofNat 32 (k + 1))) 4 true true =
      false := hforbid
  refine ⟨m, ?_, fun j _ hjk => ?_, hsame⟩
  · calc s.pushRegs adr rs = s.pushRegs adr (rs.take k ++ rs[k] :: rs.drop (k + 1)) := by rw [hsplit]
      _ = State.pushRegs { s with mem := m } (adr - 4 * BitVec.ofNat 32 k) (rs[k] :: rs.drop (k + 1)) := by
        rw [State.pushRegs_append, hpush, Acc.bind_ok]
      _ = _ := by
        rw [State.pushRegs, hadr, State.store_forbidden hforbid', Acc.bind_trap, mdpCause_word]
        rfl
  · rw [hwords j (by rwa [hlen]), List.getElem_take]

/-- Loads of which number `k` is the first not permitted: those before it are done, and MDP is taken (R879). -/
theorem State.popRegs_traps (s : State) (adr : Word) (rs : List Reg) {k : Nat} (hk : k < rs.length) (hnodup : rs.Nodup)
    (hzero : 0 ∉ rs) (hreach : ∀ j < k, s.reaches (wordAligned (adr + 4 * BitVec.ofNat 32 j)) 4 false true)
    (hforbid : s.permits (wordAligned (adr + 4 * BitVec.ofNat 32 k)) 4 false true = false) :
    ∃ g, s.popRegs adr rs = .trap (State.raiseMdp { s with regs := g }
        (wordAligned (adr + 4 * BitVec.ofNat 32 k)) 0x14) ∧
      (∀ j (h : j < rs.length), j < k →
        State.reg { s with regs := g } rs[j] = s.bytesAt (wordAligned (adr + 4 * BitVec.ofNat 32 j)) 4) ∧
      SameRegsBut (rs.take k) s { s with regs := g } := by
  have hlen : (rs.take k).length = k := List.length_take_of_le hk.le
  have hsplit : rs.take k ++ rs[k] :: rs.drop (k + 1) = rs := by
    rw [← List.drop_eq_getElem_cons hk, List.take_append_drop]
  obtain ⟨g, hpop, hwords, hsame⟩ := s.popRegs_reaches adr (rs.take k) (hnodup.sublist (rs.take_sublist k))
    (fun h => hzero (List.mem_of_mem_take h)) (by rwa [hlen])
  rw [hlen] at hpop
  have hforbid' : State.permits { s with regs := g } (wordAligned (adr + 4 * BitVec.ofNat 32 k)) 4 false true =
      false := hforbid
  refine ⟨g, ?_, fun j _ hjk => ?_, hsame⟩
  · calc s.popRegs adr rs = s.popRegs adr (rs.take k ++ rs[k] :: rs.drop (k + 1)) := by rw [hsplit]
      _ = State.popRegs { s with regs := g } (adr + 4 * BitVec.ofNat 32 k) (rs[k] :: rs.drop (k + 1)) := by
        rw [State.popRegs_append, hpop, Acc.bind_ok]
      _ = _ := by
        rw [State.popRegs, State.load, State.loadAs_forbidden hforbid', Acc.bind_trap, mdpCause_word]
        rfl
  · rw [← hwords j (by rwa [hlen]), List.getElem_take]

/-! ### PREPARE and DISPOSE (R607, R879) -/

section
variable {i : Instr} {s : State} {l : BitVec 12} {imm5 : BitVec 5} {k : Nat} {f : State → State}

theorem prepareTraps (hexec : exec i s = s.prepared l imm5 f) : PrepareTraps i s l k := by
  intro hstop hk hreach hforbid
  obtain ⟨m, hpush, hwords, hsame⟩ := s.pushRegs_traps (s.reg spReg) (listRegs l) hk
    ((hk.trans_le (listRegs_length_le l)).trans (by decide)) hreach hforbid
  rw [State.prepared, State.stopPoint_none hstop, hpush] at hexec
  refine ⟨_, hexec, fun j hj hjk => ?_, fun r _ => State.reg_raiseMdp _ _ _ r, fun b hb => ?_,
    State.entersMdp_raiseMdp _ _ _⟩
  · rw [State.bytesAt_raiseMdp]
    exact hwords j hj hjk
  · rw [State.raiseMdp_mem]
    exact hsame b hb

theorem disposeTraps (hexec : exec i s = s.disposed l imm5 f) : DisposeTraps i s l imm5 k := by
  intro hstop hk hreach hforbid
  have hmem {r : Reg} (h : r ∈ (listRegs l).reverse) : r ∈ listRegs l := List.mem_reverse.1 h
  obtain ⟨g, hpop, hwords, hsame⟩ := s.popRegs_traps (s.reg spReg + wordsOf imm5) (listRegs l).reverse
    (by rwa [List.length_reverse]) (List.nodup_reverse.2 (listRegs_nodup l))
    (fun h => not_mem_listRegs (by decide) (hmem h)) hreach hforbid
  rw [State.disposed, State.stopPoint_none hstop, hpop] at hexec
  refine ⟨_, hexec, fun j hj hjk => ?_, fun r hr => ?_, fun b => ?_, State.entersMdp_raiseMdp _ _ _⟩
  · rw [State.reg_raiseMdp]
    exact hwords j hj hjk
  · rw [State.reg_raiseMdp]
    exact hsame r hr
  · rw [State.raiseMdp_mem]

end

/-- Settles O34: each instruction is a read, a write, a read-modify-write or a register list at its addresses. -/
theorem forbiddenAccessTraps : Obligations.ForbiddenAccessTraps := by
  intro s r1 r2 r3 b d16 d15 d23 d22 d7 d6 d4 l i5 i6 i16 i32 k sp a e
  have based15 := s.based_even r1 d15
  have based22 := s.based_even r1 d22
  exact ⟨trapsRead rfl rfl, trapsRead rfl rfl, trapsRead rfl based15, trapsRead rfl based15, trapsRead rfl based15,
    trapsRead rfl rfl, trapsRead rfl rfl, trapsRead rfl based22, trapsRead rfl based22, trapsRead rfl based22,
    trapsRead rfl (s.epBased_zext d7), trapsRead rfl (s.epBased_zext d4), trapsRead rfl (s.epBased_even d7),
    trapsRead rfl (s.epBased_even d4), trapsRead rfl (s.epBased_quad d6),
    trapsWrite rfl rfl, trapsWrite rfl rfl, trapsWrite rfl based15, trapsWrite rfl based22, trapsWrite rfl based15,
    trapsWrite rfl based22, trapsWrite rfl (s.epBased_zext d7), trapsWrite rfl (s.epBased_even d7),
    trapsWrite rfl (s.epBased_quad d6), trapsRead rfl rfl, trapsRead rfl rfl,
    trapsRmw rfl (misaligned_one _), trapsRmw rfl (misaligned_one _), trapsRmw rfl (misaligned_one _),
    trapsRmw rfl (misaligned_one _), trapsRmw rfl (misaligned_one _), trapsRmw rfl (misaligned_one _),
    trapsRmw rfl (misaligned_wordAligned _), trapsRead rfl (congrArg (s.main.ctbp + ·) (zext_even i6)),
    trapsRead rfl (congrArg (s.pc + 2 + ·) (shiftLeft_one _)), prepareTraps (f := fun t => t.advance 4) rfl,
    prepareTraps (f := fun t => t.move epReg (t.reg spReg) 4) rfl,
    prepareTraps (f := fun t => t.move epReg (sext i16) 6) rfl,
    prepareTraps (f := fun t => t.move epReg (i16 ++ 0#16) 6) rfl,
    prepareTraps (f := fun t => t.move epReg i32 8) rfl, disposeTraps (f := fun t => t.advance 4) rfl,
    disposeTraps (f := fun t => t.setPc (t.reg r1)) rfl⟩

end Sys2Proof.Machine
end

section
/-! PROOFS. Floating-point instructions on a state: the three ends of one (its result delivered, an enabled exception, turned
away), each stated once for whatever the instruction computes (O48 to O51, O53, O54). -/
namespace Sys2Proof.Machine

section
variable {i : Instr} {s : State} {c : FpClass} {listed : Det} {g : FpEnv → FpOut} {write : DWord → State → State}
  {o : FpOut}

/-! ### Completion (R658) -/

/-- With an FPU that is ready an instruction completes with the outcome of its operation. -/
theorem State.fpRun_of_directed (h : s.fpDirected) :
    s.fpRun c listed g write = .next
      (State.fpComplete { s with free := s.free + (g s.fpEnv).used } c (g s.fpEnv).det (write (g s.fpEnv).value)) := by
  obtain ⟨hfpu, hvalid, hfs⟩ := h
  have hopen : s.fpOpen = false := by rw [State.fpOpen, hfs]; rfl
  simp [State.fpRun, State.withFpu, State.fpOutcome, hfpu, hvalid, hopen]

/-- The state that an instruction completes in before its destination is written: the preservation bits of FPSR hold what
was detected, and free values have been used. -/
def State.fpPreserve (s : State) (o : FpOut) : State :=
  { s with free := s.free + o.used, fpu := { s.fpu with fpsr := s.fpu.fpsr ||| (o.det.setWidth 5).setWidth 32 } }

/-- What is left of an instruction that writes its destination in that state. -/
theorem fpDone_of_write {ds : List Reg} {t : State} (h : OnlyRegs ds 0 (s.fpPreserve o) t)
    (hpc : t.pc = (s.fpPreserve o).pc) : FpDone ds o.det s (t.advance 4) := by
  obtain ⟨hregs, hpsw, hmem, hsys, hfpu, hrest, -⟩ := h
  refine ⟨hregs, ?psw, hmem, hsys, hrest, hfpu, ?pc⟩
  case psw =>
    have hpsw' : t.psw = (s.fpPreserve o).psw := by simpa [SamePswBut] using hpsw
    exact hpsw'
  case pc =>
    obtain ⟨-, -, -, -, hcfg⟩ := hrest
    rw [State.advance_pc, hpc, hcfg]
    rfl

/-- An instruction that detects nothing enabled writes its destination. -/
theorem exec_of_not_enabled (hexec : exec i s = s.fpRun c listed g write) (ho : g s.fpEnv = o) (ready : s.fpDirected)
    (hdet : s.fpEnabled o.det = false) : exec i s = .next ((write o.value (s.fpPreserve o)).advance 4) := by
  subst ho
  rw [hexec, State.fpRun_of_directed ready]
  exact congrArg _ (if_neg (Bool.eq_false_iff.1 hdet))

theorem fpGivesReg {r : Reg} (hexec : exec i s = s.fpRun c listed g (toReg r)) (ho : g s.fpEnv = o)
    (ready : s.fpDirected) : FpGivesReg i s o r := by
  intro hdet
  exact ⟨_, exec_of_not_enabled hexec ho ready hdet, State.holds_setReg _ _ _,
    fpDone_of_write ((OnlyRegs.refl _ _ _).setReg List.mem_cons_self _) (toReg_pc _ _ _)⟩

theorem fpGivesPair {p : Pair} (hexec : exec i s = s.fpRun c listed g (toPair p)) (ho : g s.fpEnv = o)
    (ready : s.fpDirected) : FpGivesPair i s o p := by
  intro hdet
  have hhi : p.hi ∈ [p.lo, p.hi] := List.mem_cons_of_mem _ List.mem_cons_self
  exact ⟨_, exec_of_not_enabled hexec ho ready hdet, (State.holds_setReg _ _ _).setReg (Pair.lo_ne_hi p) _,
    State.holds_setReg _ _ _,
    fpDone_of_write (((OnlyRegs.refl _ _ _).setReg List.mem_cons_self _).setReg hhi _) (toPair_pc _ _ _)⟩

theorem fpToReg {r : Reg} (hexec : exec i s = s.fpRun c listed g (toReg r)) (ho : g s.fpEnv = o) : FpToReg i s o r :=
  fun ready => fpGivesReg hexec ho ready.1

theorem fpToPair {p : Pair} (hexec : exec i s = s.fpRun c listed g (toPair p)) (ho : g s.fpEnv = o) :
    FpToPair i s o p :=
  fun ready => fpGivesPair hexec ho ready.1

/-! ### An enabled exception (R658, R664) -/

/-- What the operation exception does, in either mode. -/
def State.FpRaised (s : State) (c : FpClass) (det : Det) (t : State) : Prop :=
  t.fpu.fpsr = excFpsr s.fpu.fpsr (s.fpPrecise c) det ∧ t.fpu.fpepc = limitAddr s.cfg s.pc ∧
    SameRegsBut [] s t ∧ SameMem s t ∧ t.prot = s.prot ∧ t.ppu = s.ppu ∧ SameRest s t ∧
    (if s.fpPrecise c then
      t.main = s.mainAfterEi s.pc 0x71 ∧ t.psw = s.pswAtHandler 0x60 false false ∧ t.fpu.fpec = s.fpu.fpec ∧
        t.pc = pcValue s.cfg (s.main.ehBase + 0x70)
     else t.main = s.main ∧ t.psw = s.psw ∧ t.tsu = s.tsu ∧ t.fpu.fpec = s.fpu.fpec ||| 1 ∧ Falls 4 s t)

theorem State.fpRaised_fpException (s : State) (c : FpClass) (det : Det) :
    s.FpRaised c det (s.fpException c det) := by
  unfold State.FpRaised State.fpException
  cases s.fpPrecise c with
  | true =>
    refine ⟨?_, ?_, fun r _ => State.reg_takeException _ _ _ r, ?_, State.takeException_prot _ _ _,
      State.takeException_ppu _ _ _, ?_, State.enter_main_ei _ _ _ rfl, ?_, ?_, State.takeException_pc _ _ _⟩
    case refine_5 => exact (State.takeException_psw _ _ _).trans (State.enter_psw _ _ _)
    all_goals simp [SameMem, SameRest]
  | false => exact ⟨rfl, rfl, fun _ _ => rfl, fun _ => rfl, rfl, rfl, ⟨rfl, rfl, rfl, rfl, rfl⟩, rfl, rfl, rfl, rfl, rfl⟩

/-- An instruction that detects something enabled raises it, whatever its destination. -/
theorem fpRaises (hexec : exec i s = s.fpRun c listed g write) (ho : g s.fpEnv = o) : FpRaises i s c o.det := by
  intro ready hdet
  subst ho
  have hraise : exec i s = .next (State.fpException { s with free := s.free + (g s.fpEnv).used } c (g s.fpEnv).det) := by
    rw [hexec, State.fpRun_of_directed ready.1]
    exact congrArg _ (if_pos hdet)
  exact ⟨_, hraise, State.fpRaised_fpException _ _ _⟩

/-! ### Turned away (R654, R663) -/

/-- The exception code of the coprocessor that a class belongs to (R1032). -/
def FpClass.unusableCode : FpClass → Word
  | .single => 0x530
  | .double => 0x531

/-- Without an FPU the coprocessor unusable exception is taken instead of going to `t`. -/
theorem fpUnusable {t : State} (hexec : exec i s = s.withFpu c t) : FpUnusable i s c.unusableCode := by
  intro hfpu
  replace hexec := hexec.trans (if_neg (Bool.eq_false_iff.1 hfpu))
  cases c with
  | single => exact entersFe_of_takeException (e := .ucpop 0) hexec rfl rfl rfl
  | double => exact entersFe_of_takeException (e := .ucpop 1) hexec rfl rfl rfl

/-- What goes to the next instruction while an exception is reported only moves on. -/
theorem fpInvalidated {t : State} (hexec : exec i s = s.withFpu c t) (ht : s.fpInvalid = true → t = s.advance 4) :
    FpInvalidated i s := by
  intro hfpu hinvalid
  replace hexec := hexec.trans (if_pos hfpu)
  rw [ht hinvalid] at hexec
  exact ⟨_, hexec, rfl, rfl, (OnlyRegs.refl s [] 0).setPc _⟩

/-- Every instruction that completes by `State.fpRun` is turned away. -/
theorem fpRun_turnedAway {code : Word} (hexec : exec i s = s.fpRun c listed g write) (hcode : c.unusableCode = code) :
    FpInvalidated i s ∧ FpUnusable i s code :=
  ⟨fpInvalidated hexec fun h => if_pos h, hcode ▸ fpUnusable hexec⟩

/-- The conditional moves are turned away like the runs. -/
theorem fpMove_turnedAway {t : State} {code : Word}
    (hexec : exec i s = s.withFpu c (State.advance (if s.fpInvalid then s else t) 4)) (hcode : c.unusableCode = code) :
    FpInvalidated i s ∧ FpUnusable i s code :=
  ⟨fpInvalidated hexec fun h => by rw [if_pos h], hcode ▸ fpUnusable hexec⟩

end

/-! ### The instructions

`exec` is unfolded at each instruction before its run is compared, so that Lean need not look through the whole operation. -/

/-- Settles O48: each instruction is a run of its operation into a register or a pair. -/
theorem fpArithmetic : Obligations.FpArithmetic := by
  intro s r1 r2 r3 r4 p1 p2 p3 a b c d e f
  refine ⟨?_, ?_, ?_, ?_, ?_, ?_, ?_, ?_, ?_, ?_, ?_, ?_, ?_, ?_, ?_, ?_⟩ <;>
    first
      | exact fpToReg (by dsimp only [exec]; rfl) (by rfl)
      | exact fpToPair (by dsimp only [exec]; rfl) (by rfl)

/-- Settles O49: as O48. -/
theorem fpOneOperand : Obligations.FpOneOperand := by
  intro s r2 r3 p2 p3 a d f
  refine ⟨?_, ?_, ?_, ?_, ?_, ?_, ?_, ?_, ?_, ?_, ?_, ?_⟩ <;>
    first
      | exact fpToReg (by dsimp only [exec]; rfl) (by rfl)
      | exact fpToPair (by dsimp only [exec]; rfl) (by rfl)

/-- Settles O50: the operation takes no notice of the rounding mode, so that being `fpDirected` is enough. -/
theorem fpToIntegerInstructions : Obligations.FpToIntegerInstructions := by
  intro s r2 r3 p2 p3 a d group
  have directed {P : Prop} (h : s.fpDirected → P) : s.fpReady → P := fun ready => h ready.1
  refine ⟨fun h => ?_, fun h => ?_, fun h => ?_, directed fun h => ?_⟩
  all_goals
    refine ⟨?_, ?_, ?_, ?_, ?_, ?_, ?_, ?_⟩ <;>
      first
        | exact fpGivesReg (by dsimp only [exec]; rfl) (by rfl) h
        | exact fpGivesPair (by dsimp only [exec]; rfl) (by rfl) h

/-- Settles O51: as O48. -/
theorem fpFromIntegerInstructions : Obligations.FpFromIntegerInstructions := by
  intro s r2 r3 p2 p3 f
  refine ⟨?_, ?_, ?_, ?_, ?_, ?_, ?_, ?_⟩ <;>
    first
      | exact fpToReg (by dsimp only [exec]; rfl) (by rfl)
      | exact fpToPair (by dsimp only [exec]; rfl) (by rfl)

/-- Settles O53: the exception does not depend on the operation or on the destination. -/
theorem fpEnabledException : Obligations.FpEnabledException := by
  intro s r1 r2 r3 r4 p1 p2 p3 fc n f a b c d e S D group
  refine ⟨?_, ?_, ?_, ?_, ?_, ?_, ?_, ?_, ?_, ?_, ?_, ?_, ?_, ?_, ?_, ?_, ?_, ?_, ?_, ?_, ?_, ?_, ?_, ?_, ?_, ?_, ?_, ?_, ?_,
    ?_, ?_, ?_, ?_, ?_, ?_, ?_, ⟨?_, ?_, ?_, ?_, ?_, ?_, ?_, ?_⟩, ⟨?_, ?_, ?_, ?_, ?_, ?_, ?_, ?_⟩,
    ⟨?_, ?_, ?_, ?_, ?_, ?_, ?_, ?_⟩, ⟨?_, ?_, ?_, ?_, ?_, ?_, ?_, ?_⟩, ?_, ?_⟩ <;>
  exact fpRaises (by dsimp only [exec]; rfl) (by rfl)

/-- Settles O54: all but the moves and TRFSR are runs of an operation; those go by the availability of the FPU alone. -/
theorem fpInvalidationAndUnusable : Obligations.FpInvalidationAndUnusable := by
  intro s fc n r1 r2 r3 r4 p1 p2 p3 S D
  refine ⟨?_, ?_, ?_, ?_, ?_, ?_, ?_, ?_, ?_, ?cmpS, ?cmpD, ?moveS, ?moveD, ?trfsr⟩
  case moveS | moveD => exact fpMove_turnedAway (by dsimp only [exec, execCmovfS, execCmovfD]) (by rfl)
  case trfsr => exact fpUnusable (c := .single) (by dsimp only [exec, execTrfsr])
  case cmpS | cmpD => exact fpRun_turnedAway (by dsimp only [exec]; rfl) (by rfl)
  all_goals
    intro i hi
    fin_cases hi <;> exact fpRun_turnedAway (by dsimp only [exec]; rfl) (by rfl)

end Sys2Proof.Machine
end

section
/-! PROOFS. Exact operations: the rational number that a value stands for, and that sums, products and comparisons of values
are those of their numbers (O55). -/
namespace Sys2Proof.Machine

/-! ### The number of a value -/

/-- The number of a finite value by its sign. -/
theorem Fp.toRat_fin (neg : Bool) (m : Nat) (e : Int) :
    (Fp.fin neg m e).toRat = if neg then -(m * (2 : Rat) ^ e) else m * (2 : Rat) ^ e := by
  cases neg <;> simp [Fp.toRat]

theorem Fp.toRat_neg (x : Fp) : x.neg.toRat = -x.toRat := by
  cases x with
  | fin neg m e => cases neg <;> simp [Fp.neg, Fp.toRat_fin]
  | _ => simp [Fp.neg, Fp.toRat]

theorem Fp.number_neg {x : Fp} (h : x.Number) : x.neg.Number := by
  cases x <;> exact h

/-- A power of two in units of a lower one. -/
theorem two_zpow_sub_toNat {e e0 : Int} (h : e0 ≤ e) : (2 : Rat) ^ (e - e0).toNat * (2 : Rat) ^ e0 = (2 : Rat) ^ e := by
  rw [← zpow_natCast, ← zpow_add₀ two_ne_zero]
  congr 1
  omega

/-- A value as a multiple of a power of two no greater than its own. -/
theorem Fp.scaled_mul (neg : Bool) (m : Nat) {e e0 : Int} (h : e0 ≤ e) :
    ((Fp.fin neg m e).scaled e0 : Rat) * (2 : Rat) ^ e0 = (Fp.fin neg m e).toRat := by
  have hpow : ((m <<< (e - e0).toNat : Nat) : Rat) * (2 : Rat) ^ e0 = m * (2 : Rat) ^ e := by
    rw [Nat.shiftLeft_eq, Nat.cast_mul, mul_assoc, Nat.cast_pow, Nat.cast_ofNat, two_zpow_sub_toNat h]
  rw [Fp.toRat_fin]
  cases neg with
  | false => exact hpow
  | true => exact (congrArg (· * _) (Int.cast_neg _)).trans ((neg_mul _ _).trans (congrArg Neg.neg hpow))

/-- The value that is made of an integer and a power of two. -/
theorem Fp.toRat_of_int (i : Int) (e : Int) : (Fp.fin (decide (i < 0)) i.natAbs e).toRat = i * (2 : Rat) ^ e := by
  have habs : (i.natAbs : Rat) = |(i : Rat)| := by rw [Nat.cast_natAbs, Int.cast_abs]
  rw [Fp.toRat_fin, habs]
  by_cases h : i < 0
  · have h' : (i : Rat) < 0 := by exact_mod_cast h
    simp [h, abs_of_neg h']
  · have h' : (0 : Rat) ≤ i := by exact_mod_cast not_lt.1 h
    simp [h, abs_of_nonneg h']

/-- The sign of a value is that of its number. -/
theorem Fp.toRat_fin_pos {neg : Bool} {m : Nat} (hm : m ≠ 0) (e : Int) : 0 < (Fp.fin neg m e).toRat ↔ neg = false := by
  have h : 0 < (m : Rat) * (2 : Rat) ^ e := by positivity
  cases neg with
  | false => simpa [Fp.toRat_fin] using h
  | true => simpa [Fp.toRat_fin] using h.le

theorem Fp.toRat_fin_neg {neg : Bool} {m : Nat} (hm : m ≠ 0) (e : Int) : (Fp.fin neg m e).toRat < 0 ↔ neg = true := by
  have h : 0 < (m : Rat) * (2 : Rat) ^ e := by positivity
  cases neg with
  | false => simpa [Fp.toRat_fin] using h.le
  | true => simpa [Fp.toRat_fin] using h

/-! ### Sums, products and the order -/

/-- The sum of two numbers that are not zero: the sum of their multiples of the lower power of two. -/
theorem Fp.add_fin_fin (n n' : Bool) (m m' : Nat) (e e' : Int) :
    ((Fp.fin n m e).add (.fin n' m' e')).1.Number ∧
      ((Fp.fin n m e).add (.fin n' m' e')).1.toRat = (Fp.fin n m e).toRat + (Fp.fin n' m' e').toRat ∧
      ((Fp.fin n m e).add (.fin n' m' e')).2 = 0 := by
  have hsum : (((Fp.fin n m e).scaled (min e e') + (Fp.fin n' m' e').scaled (min e e') : Int) : Rat) *
      (2 : Rat) ^ (min e e') = (Fp.fin n m e).toRat + (Fp.fin n' m' e').toRat := by
    rw [Int.cast_add, add_mul, Fp.scaled_mul _ _ (min_le_left e e'), Fp.scaled_mul _ _ (min_le_right e e')]
  simp only [Fp.add]
  split
  · rename_i hzero
    rw [hzero, Int.cast_zero, zero_mul] at hsum
    exact ⟨trivial, hsum, rfl⟩
  · rename_i hne
    exact ⟨Int.natAbs_ne_zero.2 hne, (Fp.toRat_of_int _ _).trans hsum, rfl⟩

/-- The sum of two numbers is exact. -/
theorem Fp.add_exact {x y : Fp} (hx : x.Number) (hy : y.Number) :
    (x.add y).1.Number ∧ (x.add y).1.toRat = x.toRat + y.toRat ∧ (x.add y).2 = 0 := by
  match x, y with
  | .zero _, .zero _ => exact ⟨trivial, (add_zero _).symm, rfl⟩
  | .zero _, .fin _ _ _ => exact ⟨hy, (zero_add _).symm, rfl⟩
  | .fin _ _ _, .zero _ => exact ⟨hx, (add_zero _).symm, rfl⟩
  | .fin n m e, .fin n' m' e' => exact Fp.add_fin_fin n n' m m' e e'

/-- The product of two numbers is exact. -/
theorem Fp.mul_exact {x y : Fp} (hx : x.Number) (hy : y.Number) :
    (x.mul y).1.Number ∧ (x.mul y).1.toRat = x.toRat * y.toRat ∧ (x.mul y).2 = 0 := by
  match x, y with
  | .zero _, .zero _ => exact ⟨trivial, (mul_zero _).symm, rfl⟩
  | .zero _, .fin _ _ _ => exact ⟨trivial, (zero_mul _).symm, rfl⟩
  | .fin _ _ _, .zero _ => exact ⟨trivial, (mul_zero _).symm, rfl⟩
  | .fin n m e, .fin n' m' e' =>
    refine ⟨Nat.mul_ne_zero hx hy, ?_, rfl⟩
    have hpow : (m : Rat) * m' * (2 : Rat) ^ (e + e') = m * (2 : Rat) ^ e * (m' * (2 : Rat) ^ e') := by
      rw [zpow_add₀ two_ne_zero]
      ring
    cases n <;> cases n' <;> simp [Fp.mul, Fp.toRat_fin, hpow]

/-- One number is less than another exactly if the rational is. -/
theorem Fp.less_iff {x y : Fp} (hx : x.Number) (hy : y.Number) : x.less y = true ↔ x.toRat < y.toRat := by
  match x, y with
  | .zero _, .zero _ => exact ⟨fun h => Bool.noConfusion h, fun h => absurd h (lt_irrefl 0)⟩
  | .zero _, .fin n m e =>
    have h := Fp.toRat_fin_pos (neg := n) hy e
    simpa [Fp.less, Fp.toRat] using h.symm
  | .fin n m e, .zero _ => exact (Fp.toRat_fin_neg hx e).symm
  | .fin n m e, .fin n' m' e' =>
    rw [← Fp.scaled_mul n m (min_le_left e e'), ← Fp.scaled_mul n' m' (min_le_right e e'),
      mul_lt_mul_iff_left₀ (by positivity), Int.cast_lt]
    exact decide_eq_true_iff

/-- Settles O55. -/
theorem fpExactOperations : Obligations.FpExactOperations := by
  intro x y hx hy
  obtain ⟨hadd, haddRat, haddDet⟩ := Fp.add_exact hx hy
  obtain ⟨hmul, hmulRat, hmulDet⟩ := Fp.mul_exact hx hy
  obtain ⟨-, hsubRat, -⟩ := Fp.add_exact hx (Fp.number_neg hy)
  rw [Fp.toRat_neg, ← sub_eq_add_neg] at hsubRat
  exact ⟨hadd, hmul, haddRat, haddDet, hsubRat, hmulRat, hmulDet, Fp.less_iff hx hy⟩

end Sys2Proof.Machine
end

section
/-! PROOFS. Rounding to an integer: the integer part and the fraction of a magnitude, what each direction makes of them, and
the conversion to an integer format (O60). -/
namespace Sys2Proof.Machine

/-! ### Rounding directions (R700) -/

/-- When a direction takes the integer above the magnitude `q + t`, where `q` is a natural number and `t` a fraction. -/
def Direction.GoesUp (d : Direction) (neg : Bool) (q : Nat) (t : Rat) : Prop :=
  match d with
  | .nearest => 1 / 2 < t ∨ (t = 1 / 2 ∧ q % 2 = 1)
  | .up => neg = false ∧ t ≠ 0
  | .down => neg = true ∧ t ≠ 0
  | .zero => False

theorem Direction.not_goesUp_zero (d : Direction) (neg : Bool) (q : Nat) : ¬d.GoesUp neg q 0 := by
  cases d <;> simp [Direction.GoesUp]

/-- A magnitude is the quotient of an integer by a power of two. -/
theorem mul_zpow_eq_div (m : Nat) (e : Int) :
    (m : Rat) * (2 : Rat) ^ e = ((m <<< e.toNat : Nat) : Rat) / ((2 ^ (-e).toNat : Nat) : Rat) := by
  rw [eq_div_iff (by positivity), Nat.shiftLeft_eq]
  push_cast
  rw [mul_assoc, ← zpow_natCast, ← zpow_natCast, ← zpow_add₀ two_ne_zero]
  congr 2
  omega

/-- The integer part and the fraction of a quotient of natural numbers. -/
theorem natCast_div_eq_add (a : Nat) {b : Nat} (hb : 0 < b) : (a : Rat) / b = (a / b : Nat) + (a % b : Nat) / (b : Rat) := by
  have hb' : (b : Rat) ≠ 0 := Nat.cast_ne_zero.2 hb.ne'
  rw [div_eq_iff hb', add_mul, div_mul_cancel₀ _ hb']
  exact_mod_cast (Nat.div_add_mod' a b).symm

/-- What `roundInt` does: the number is the integer part `q` and the fraction `t` of its magnitude with its sign, and one of
the two integers next to it is chosen as the direction says. -/
theorem roundInt_spec (d : Direction) (neg : Bool) (m : Nat) (e : Int) : ∃ (q : Nat) (t : Rat) (up : Bool),
    0 ≤ t ∧ t < 1 ∧ (Fp.fin neg m e).toRat = (if neg then -(q + t : Rat) else q + t) ∧
      (roundInt d neg m e).1 = (if neg then -(q + up.toNat : Int) else q + up.toNat) ∧
      ((roundInt d neg m e).2 = true ↔ t ≠ 0) ∧ (up = true ↔ d.GoesUp neg q t) := by
  have hb : 0 < 2 ^ (-e).toNat := by positivity
  have hval := (mul_zpow_eq_div m e).trans (natCast_div_eq_add _ hb)
  simp only [roundInt, Nat.shiftRight_eq_div_pow]
  generalize m <<< e.toNat = a at *
  generalize 2 ^ (-e).toNat = b at *
  have hbRat : (0 : Rat) < b := Nat.cast_pos.2 hb
  have hzero : (a % b : Nat) / (b : Rat) ≠ 0 ↔ a % b ≠ 0 := by simp [hb.ne']
  have hhalf : 1 / 2 < (a % b : Nat) / (b : Rat) ↔ b < 2 * (a % b) := by
    rw [div_lt_div_iff₀ two_pos hbRat, one_mul, mul_comm]
    exact_mod_cast Iff.rfl
  have hhalf' : (a % b : Nat) / (b : Rat) = 1 / 2 ↔ 2 * (a % b) = b := by
    rw [div_eq_div_iff hbRat.ne' two_ne_zero, one_mul, mul_comm]
    exact_mod_cast Iff.rfl
  classical
  refine ⟨a / b, (a % b : Nat) / (b : Rat), decide (d.GoesUp neg (a / b) ((a % b : Nat) / (b : Rat))), by positivity, ?_,
    by rw [Fp.toRat_fin, hval], ?_, by rw [hzero, bne_iff_ne], decide_eq_true_iff⟩
  · rw [div_lt_one hbRat]
    exact_mod_cast Nat.mod_lt _ hb
  · rw [← Nat.cast_add]
    refine congrArg (fun up : Bool => if neg then -((a / b + up.toNat : Nat) : Int) else (a / b + up.toNat : Nat)) ?_
    rw [Bool.eq_iff_iff, decide_eq_true_iff]
    cases d <;> simp [Direction.GoesUp, hzero, ← hhalf, ← hhalf']

/-- The result is inexact exactly if it is not the number. -/
theorem roundInt_inexact_iff (d : Direction) (neg : Bool) (m : Nat) (e : Int) :
    (roundInt d neg m e).2 = true ↔ ((roundInt d neg m e).1 : Rat) ≠ (Fp.fin neg m e).toRat := by
  obtain ⟨q, t, up, ht, ht', hx, hn, hinexact, hup⟩ := roundInt_spec d neg m e
  have hup0 : t = 0 → up = false := fun h => Bool.eq_false_iff.2 fun hu => d.not_goesUp_zero neg q (h ▸ hup.1 hu)
  have hne : t ≠ 0 ↔ (up.toNat : Rat) ≠ t := by
    cases up with
    | false => exact ne_comm
    | true =>
      have h0 : t ≠ 0 := fun h => Bool.noConfusion (hup0 h)
      exact ⟨fun _ => ht'.ne', fun _ => h0⟩
  rw [hinexact, hx, hn, hne]
  cases neg <;> simp

theorem roundInt_down (neg : Bool) (m : Nat) (e : Int) : (roundInt .down neg m e).1 = ⌊(Fp.fin neg m e).toRat⌋ := by
  obtain ⟨q, t, up, ht, ht', hx, hn, -, hup⟩ := roundInt_spec .down neg m e
  rw [eq_comm, Int.floor_eq_iff, hx, hn]
  cases neg <;> cases up <;> simp [Direction.GoesUp] at hup ⊢
  · exact ⟨ht, by linarith⟩
  · subst hup; simp
  · exact ⟨ht'.le, by linarith [lt_of_le_of_ne ht (Ne.symm hup)]⟩

theorem roundInt_up (neg : Bool) (m : Nat) (e : Int) : (roundInt .up neg m e).1 = ⌈(Fp.fin neg m e).toRat⌉ := by
  obtain ⟨q, t, up, ht, ht', hx, hn, -, hup⟩ := roundInt_spec .up neg m e
  rw [eq_comm, Int.ceil_eq_iff, hx, hn]
  cases neg <;> cases up <;> simp [Direction.GoesUp] at hup ⊢
  · subst hup; simp
  · exact ⟨by linarith [lt_of_le_of_ne ht (Ne.symm hup)], ht'.le⟩
  · exact ⟨by linarith, ht⟩

/-- The nearest integer, the even one on a tie. -/
theorem roundInt_nearest (neg : Bool) (m : Nat) (e : Int) :
    2 * |((roundInt .nearest neg m e).1 : Rat) - (Fp.fin neg m e).toRat| ≤ 1 ∧
      (2 * |((roundInt .nearest neg m e).1 : Rat) - (Fp.fin neg m e).toRat| = 1 →
        (roundInt .nearest neg m e).1 % 2 = 0) := by
  obtain ⟨q, t, up, ht, ht', hx, hn, -, hup⟩ := roundInt_spec .nearest neg m e
  have habs : |((roundInt .nearest neg m e).1 : Rat) - (Fp.fin neg m e).toRat| = |(up.toNat : Rat) - t| := by
    rw [hx, hn]
    cases neg
    · simp
    · rw [← abs_neg]
      simp
      ring_nf
  rw [habs, hn]
  cases up with
  | false =>
    have hle : t ≤ 1 / 2 := not_lt.1 fun h => Bool.noConfusion (hup.2 (.inl h))
    have heven : t = 1 / 2 → q % 2 = 0 := fun h =>
      Nat.mod_two_ne_one.1 fun hq => Bool.noConfusion (hup.2 (.inr ⟨h, hq⟩))
    have hq : ((false.toNat : Nat) : Rat) - t = -t := by simp
    rw [hq, abs_neg, abs_of_nonneg ht]
    refine ⟨by linarith, fun h => ?_⟩
    have := heven (by linarith)
    split <;> simp <;> omega
  | true =>
    have hge : 1 / 2 ≤ t ∧ (t = 1 / 2 → q % 2 = 1) := by
      rcases hup.1 rfl with h | ⟨h, hq⟩
      · exact ⟨h.le, fun h' => absurd h' h.ne'⟩
      · exact ⟨h.ge, fun _ => hq⟩
    have hq : ((true.toNat : Nat) : Rat) - t = 1 - t := by simp
    rw [hq, abs_of_pos (sub_pos.2 ht')]
    refine ⟨by linarith [hge.1], fun h => ?_⟩
    have := hge.2 (by linarith)
    split <;> simp <;> omega

theorem roundInt_zero (neg : Bool) (m : Nat) (e : Int) : (roundInt .zero neg m e).1 =
    if (Fp.fin neg m e).toRat < 0 then ⌈(Fp.fin neg m e).toRat⌉ else ⌊(Fp.fin neg m e).toRat⌋ := by
  have hmag : 0 ≤ (m : Rat) * (2 : Rat) ^ e := by positivity
  cases neg with
  | false =>
    have hpos : ¬(Fp.fin false m e).toRat < 0 := by simpa [Fp.toRat_fin] using hmag
    rw [if_neg hpos]
    exact roundInt_down false m e
  | true =>
    have hup : (roundInt .zero true m e).1 = ⌈(Fp.fin true m e).toRat⌉ := roundInt_up true m e
    split
    · exact hup
    · rename_i h
      have hneg : (Fp.fin true m e).toRat ≤ 0 := by simpa [Fp.toRat_fin] using hmag
      rw [hup, le_antisymm hneg (not_lt.1 h), Int.ceil_zero, Int.floor_zero]

/-- The number is an integer exactly if no direction changes it. -/
theorem roundInt_inexact_iff_floor (d : Direction) (neg : Bool) (m : Nat) (e : Int) :
    (roundInt d neg m e).2 = true ↔ (⌊(Fp.fin neg m e).toRat⌋ : Rat) ≠ (Fp.fin neg m e).toRat := by
  rw [← roundInt_down]
  exact roundInt_inexact_iff .down neg m e

/-! ### Integer formats (R700) -/

/-- A number that is not zero, converted to an integer format. -/
theorem toInteger_fin (d : Direction) (t : IntFmt) {neg : Bool} {m : Nat} {e : Int} (hm : m ≠ 0) :
    toInteger d t ⟨.fin neg m e, false⟩ =
      if (t.signed = false ∧ (Fp.fin neg m e).toRat < 0) ∨ (roundInt d neg m e).1 < t.lo ∨ t.hi < (roundInt d neg m e).1 then
        ⟨BitVec.ofInt 64 (if neg then t.lo else t.hi), Det.v, 0⟩
      else ⟨BitVec.ofInt 64 (roundInt d neg m e).1,
        if ((roundInt d neg m e).1 : Rat) = (Fp.fin neg m e).toRat then 0 else Det.i, 0⟩ := by
  have hinexact := roundInt_inexact_iff d neg m e
  have hcond : ((!t.signed && neg) || decide ((roundInt d neg m e).1 < t.lo) || decide (t.hi < (roundInt d neg m e).1)) =
      true ↔ (t.signed = false ∧ (Fp.fin neg m e).toRat < 0) ∨ (roundInt d neg m e).1 < t.lo ∨
        t.hi < (roundInt d neg m e).1 := by
    simp [Fp.toRat_fin_neg hm, or_assoc]
  simp only [toInteger, hcond]
  refine if_congr Iff.rfl ?_ ?_
  · cases neg <;> rfl
  · congr 1
    by_cases h : ((roundInt d neg m e).1 : Rat) = (Fp.fin neg m e).toRat
    · rw [if_pos h, if_neg (fun h' => hinexact.1 h' h)]
    · rw [if_neg h, if_pos (hinexact.2 h)]

/-- The four formats by their ends: 0 is the lower one exactly of the unsigned formats. -/
theorem intFmt_ends : ∀ p ∈ ([(fmtW, -2 ^ 31, 2 ^ 31 - 1), (fmtUW, 0, 2 ^ 32 - 1), (fmtL, -2 ^ 63, 2 ^ 63 - 1),
    (fmtUL, 0, 2 ^ 64 - 1)] : List (IntFmt × Int × Int)), p.1.lo = p.2.1 ∧ p.1.hi = p.2.2 ∧ (p.1.signed = false ↔ p.2.1 = 0) := by
  decide

/-- Settles O60. -/
theorem fpIntegerRounding : Obligations.FpIntegerRounding := by
  refine ⟨fun neg m e => ?_, fun d neg flushed m e p hp => ?_⟩
  · obtain ⟨hnear, htie⟩ := roundInt_nearest neg m e
    exact ⟨roundInt_down neg m e, roundInt_up neg m e, roundInt_zero neg m e, hnear, htie,
      fun d => roundInt_inexact_iff_floor d neg m e⟩
  · obtain ⟨hlo, hhi, hsigned⟩ := intFmt_ends p hp
    rw [← hlo, ← hhi] at *
    refine ⟨fun _ => rfl, ?_, rfl, fun hm => ?_⟩
    · cases neg <;> rfl
    · rw [toInteger_fin d p.1 hm]
      simp only [hsigned]

end Sys2Proof.Machine
end

section
/-! PROOFS. Rounding to a format: the bits that are kept and the power of two they count, underflow and overflow by the
magnitude, and that a rounded number can be packed and unpacked (O59). -/
namespace Sys2Proof.Machine

/-! ### Formats (R650) -/

/-- What the two formats share: a fraction, an exponent with room for a normalized number on both sides of 1, and a pattern of
no more than 64 bits. -/
structure Fmt.Regular (f : Fmt) : Prop where
  frac_pos : 1 ≤ f.frac
  two_le_expBits : 2 ≤ f.expBits
  width_le : f.frac + f.expBits + 1 ≤ 64

theorem Fmt.regular_of_eq {f : Fmt} (h : f = single ∨ f = double) : f.Regular := by
  rcases h with rfl | rfl <;> exact ⟨by decide, by decide, by decide⟩

namespace Fmt.Regular
variable {f : Fmt} (hf : f.Regular)
include hf

theorem two_pow_expBits : 2 ^ f.expBits = 2 * f.bias + 2 := by
  have h := hf.two_le_expBits
  have hpow : 2 ^ f.expBits = 2 * 2 ^ (f.expBits - 1) := by rw [← pow_succ', Nat.sub_add_cancel (by omega)]
  have hpos : 0 < 2 ^ (f.expBits - 1) := by positivity
  unfold Fmt.bias
  omega

theorem bias_pos : 1 ≤ f.bias := by
  have h : 2 ^ 2 ≤ 2 ^ f.expBits := Nat.pow_le_pow_right two_pos hf.two_le_expBits
  have := hf.two_pow_expBits
  omega

theorem emin_le_bias : f.emin ≤ f.bias := by
  have := hf.bias_pos
  unfold Fmt.emin
  omega

end Fmt.Regular

/-! ### The bits that are kept -/

/-- A natural number `q * (2 * h) + r` rounded to a multiple of `2 * h`: the nearest, an even one on a tie. -/
theorem nearest_even {q h r : Nat} (hr : r < 2 * h) {q' : Nat}
    (hq' : q' = if h < r || (r == h && q % 2 == 1) then q + 1 else q) :
    q' * (2 * h) ≤ q * (2 * h) + r + h ∧ q * (2 * h) + r ≤ q' * (2 * h) + h ∧
      (q' * (2 * h) = q * (2 * h) + r + h ∨ q * (2 * h) + r = q' * (2 * h) + h → q' % 2 = 0) ∧
      (r = 0 ↔ q' * (2 * h) = q * (2 * h) + r) := by
  have hsucc : (q + 1) * (2 * h) = q * (2 * h) + 2 * h := Nat.succ_mul _ _
  simp only [Bool.or_eq_true, Bool.and_eq_true, decide_eq_true_eq, beq_iff_eq] at hq'
  split at hq'
  · subst hq'
    rw [hsucc]
    omega
  · subst hq'
    omega

/-- The exponent that rounding to `f.frac + 1` bits adds to a number. -/
def Fmt.roundExp (f : Fmt) (m : Nat) : Int :=
  if m.log2 ≤ f.frac then -((f.frac - m.log2 : Nat) : Int) else (f.roundBits m).2.1

/-- A number of at most `f.frac + 1` bits is kept. -/
theorem Fmt.roundBits_of_le {f : Fmt} {m : Nat} (h : m.log2 ≤ f.frac) :
    f.roundBits m = (m <<< (f.frac - m.log2), 0, false) := by
  simp [Fmt.roundBits, h]

/-- A number without its low `k + 1` bits, rounded to the nearest, an even one on a tie. -/
def roundShift (m k : Nat) : Nat :=
  if 2 ^ k < m % 2 ^ (k + 1) || (m % 2 ^ (k + 1) == 2 ^ k && m / 2 ^ (k + 1) % 2 == 1) then m / 2 ^ (k + 1) + 1
  else m / 2 ^ (k + 1)

/-- A longer number loses its low bits, and one more if rounding carries out of the bits that are left. -/
theorem Fmt.roundBits_of_lt {f : Fmt} {m k : Nat} (hk : m.log2 = f.frac + (k + 1)) :
    f.roundBits m =
      if roundShift m k = 2 ^ (f.frac + 1) then (2 ^ f.frac, k + 2, m % 2 ^ (k + 1) != 0)
      else (roundShift m k, k + 1, m % 2 ^ (k + 1) != 0) := by
  have hsub : m.log2 - f.frac = k + 1 := by omega
  simp only [Fmt.roundBits, if_neg (show ¬m.log2 ≤ f.frac by omega), hsub, Nat.add_sub_cancel,
    Nat.shiftRight_eq_div_pow, roundShift]
  rfl

/-- Of a number rounded to the nearest multiple of `2 * h`: it becomes an even multiple `top`, the greatest there is, exactly
from half a unit below that on. -/
theorem nearest_eq_top {m h q top : Nat} (hpos : 0 < h) (htop : top % 2 = 0) (hq : q ≤ top)
    (hup : q * (2 * h) ≤ m + h) (hdown : m ≤ q * (2 * h) + h) (htie : m = q * (2 * h) + h → q % 2 = 0) :
    q = top ↔ top * (2 * h) ≤ m + h := by
  refine ⟨fun heq => heq ▸ hup, fun hle => ?_⟩
  by_contra hne
  have hsucc : (q + 1) * (2 * h) = q * (2 * h) + 2 * h := Nat.succ_mul _ _
  have hlt : (q + 1) * (2 * h) ≤ top * (2 * h) := Nat.mul_le_mul_right _ (by omega)
  have heven := htie (by omega)
  have heq : q + 1 = top := Nat.eq_of_mul_eq_mul_right (show 0 < 2 * h by omega) (by omega)
  omega

/-- `b * 2 ^ s` is the number of `f.frac + 1` bits nearest to `m`, an even one on a tie, and `lost` says that it is not `m`;
it is the power of two above `m` exactly from half a unit below that on. -/
structure Fmt.RoundsTo (f : Fmt) (m b : Nat) (s : Int) (lost : Bool) : Prop where
  lower : 2 ^ f.frac ≤ b
  upper : b < 2 ^ (f.frac + 1)
  near : 2 * |(b * (2 : Rat) ^ s - m : Rat)| ≤ (2 : Rat) ^ s
  tie : 2 * |(b * (2 : Rat) ^ s - m : Rat)| = (2 : Rat) ^ s → b % 2 = 0
  lost_iff : lost = true ↔ b * (2 : Rat) ^ s ≠ m
  exponent : s + f.frac = m.log2 +
    (if (2 ^ (f.frac + 2) - 1 : Rat) * (2 : Rat) ^ ((m.log2 : Int) - f.frac - 1) ≤ m then 1 else 0)

/-- A number of at most `f.frac + 1` bits is shifted up. -/
theorem Fmt.roundsTo_of_le {f : Fmt} {m : Nat} (hm : m ≠ 0) (h : m.log2 ≤ f.frac) :
    f.RoundsTo m (m <<< (f.frac - m.log2)) (-((f.frac - m.log2 : Nat) : Int)) false := by
  obtain ⟨k, hk⟩ := Nat.exists_eq_add_of_le h
  have hlow := Nat.log2_self_le hm
  have hhigh := Nat.lt_log2_self (n := m)
  have hsub : f.frac - m.log2 = k := by omega
  have hexact : ((m <<< k : Nat) : Rat) * (2 : Rat) ^ (-(k : Int)) = m := by
    rw [Nat.shiftLeft_eq, Nat.cast_mul, Nat.cast_pow, Nat.cast_ofNat, mul_assoc, ← zpow_natCast, ← zpow_add₀ two_ne_zero]
    simp
  have hbelow : ¬(2 ^ (f.frac + 2) - 1 : Rat) * (2 : Rat) ^ ((m.log2 : Int) - f.frac - 1) ≤ m := by
    have hnat : m * 2 ^ (k + 1) + 2 ≤ 2 ^ (f.frac + 2) := by
      have h1 : (m + 1) * 2 ^ (k + 1) ≤ 2 ^ (m.log2 + 1) * 2 ^ (k + 1) := Nat.mul_le_mul_right _ hhigh
      have h2 : 2 ^ 1 ≤ 2 ^ (k + 1) := Nat.pow_le_pow_right two_pos (by omega)
      rw [Nat.succ_mul, ← pow_add, show m.log2 + 1 + (k + 1) = f.frac + 2 by omega] at h1
      omega
    have hrat : (m * 2 ^ (k + 1) + 2 : Rat) ≤ 2 ^ (f.frac + 2) := by exact_mod_cast hnat
    have hpow : (2 : Rat) ^ ((m.log2 : Int) - f.frac - 1) = (2 ^ (k + 1))⁻¹ := by
      rw [← zpow_natCast, ← zpow_neg]
      congr 1
      omega
    rw [hpow, ← div_eq_mul_inv, div_le_iff₀ (by positivity)]
    linarith
  rw [hsub]
  refine ⟨?_, ?_, ?_, fun htie => ?_, ?_, ?_⟩
  · rw [Nat.shiftLeft_eq, hk, pow_add]
    exact Nat.mul_le_mul_right _ hlow
  · rw [Nat.shiftLeft_eq, show f.frac + 1 = m.log2 + 1 + k by omega, pow_add]
    exact Nat.mul_lt_mul_of_pos_right hhigh (by positivity)
  · rw [hexact, sub_self, abs_zero, mul_zero]
    positivity
  · rw [hexact, sub_self, abs_zero, mul_zero] at htie
    exact absurd htie.symm (by positivity)
  · rw [hexact]
    simp
  · rw [if_neg hbelow]
    omega

/-- A longer number is rounded at its bit `k + 1`. -/
theorem Fmt.roundsTo_of_lt {f : Fmt} {m k : Nat} (hm : m ≠ 0) (hk : m.log2 = f.frac + (k + 1)) :
    if roundShift m k = 2 ^ (f.frac + 1) then f.RoundsTo m (2 ^ f.frac) (k + 2) (m % 2 ^ (k + 1) != 0)
      else f.RoundsTo m (roundShift m k) (k + 1) (m % 2 ^ (k + 1) != 0) := by
  have hlow := Nat.log2_self_le hm
  have hhigh := Nat.lt_log2_self (n := m)
  have hpos : 0 < 2 ^ k := by positivity
  have hh : 2 ^ (k + 1) = 2 * 2 ^ k := pow_succ' 2 k
  have hm' : m / 2 ^ (k + 1) * (2 * 2 ^ k) + m % 2 ^ (k + 1) = m := by
    rw [← hh]
    exact Nat.div_add_mod' m _
  have hdivLow : 2 ^ f.frac ≤ m / 2 ^ (k + 1) := by
    rw [Nat.le_div_iff_mul_le (by positivity), ← pow_add, ← hk]
    exact hlow
  have hdivHigh : m / 2 ^ (k + 1) < 2 ^ (f.frac + 1) := by
    rw [Nat.div_lt_iff_lt_mul (by positivity), ← pow_add, show f.frac + 1 + (k + 1) = m.log2 + 1 by omega]
    exact hhigh
  have hq : roundShift m k = if 2 ^ k < m % 2 ^ (k + 1) || (m % 2 ^ (k + 1) == 2 ^ k && m / 2 ^ (k + 1) % 2 == 1) then
      m / 2 ^ (k + 1) + 1 else m / 2 ^ (k + 1) := rfl
  generalize roundShift m k = q at *
  have hmod : m % 2 ^ (k + 1) < 2 * 2 ^ k := by
    rw [← hh]
    exact Nat.mod_lt m (by positivity)
  obtain ⟨hup, hdown, htie, hexact⟩ := nearest_even hmod hq
  rw [hm'] at hup hdown htie hexact
  clear hmod
  generalize hhDef : 2 ^ k = h at *
  have hqHigh : q ≤ 2 ^ (f.frac + 1) := by
    rw [hq]
    split <;> omega
  have hqLow : 2 ^ f.frac ≤ q := by
    rw [hq]
    split <;> omega
  have htop : q = 2 ^ (f.frac + 1) ↔ 2 ^ (f.frac + 1) * (2 * h) ≤ m + h :=
    nearest_eq_top hpos (by rw [pow_succ]; omega) hqHigh hup hdown fun h => htie (.inr h)
  have hunit : (2 : Rat) ^ (k + 1 : Int) = 2 * h := by exact_mod_cast hh
  have hthreshold : (2 ^ (f.frac + 2) - 1 : Rat) * (2 : Rat) ^ ((m.log2 : Int) - f.frac - 1) ≤ m ↔ q = 2 ^ (f.frac + 1) := by
    have hhalf : (2 : Rat) ^ ((m.log2 : Int) - f.frac - 1) = h := by
      rw [show (m.log2 : Int) - f.frac - 1 = k by omega, zpow_natCast]
      norm_cast
    have hcast : 2 ^ (f.frac + 1) * (2 * h) ≤ m + h ↔ (2 : Rat) ^ (f.frac + 1) * (2 * h) ≤ m + h := by exact_mod_cast Iff.rfl
    rw [htop, hcast, hhalf, pow_succ, sub_mul]
    constructor <;> intro h <;> linarith
  have hnear : |(q : Rat) * (2 * h) - m| ≤ h := by
    have hup' : (q : Rat) * (2 * h) ≤ m + h := by exact_mod_cast hup
    have hdown' : (m : Rat) ≤ q * (2 * h) + h := by exact_mod_cast hdown
    exact abs_le.2 ⟨by linarith, by linarith⟩
  have heven : |(q : Rat) * (2 * h) - m| = h → q % 2 = 0 := by
    intro habs
    rcases eq_or_eq_neg_of_abs_eq habs with h' | h'
    · have : (q : Rat) * (2 * h) = m + h := by linarith
      exact htie (.inl (by exact_mod_cast this))
    · have : (m : Rat) = q * (2 * h) + h := by linarith
      exact htie (.inr (by exact_mod_cast this))
  have hlost : (m % 2 ^ (k + 1) != 0) = true ↔ (q : Rat) * (2 * h) ≠ m := by
    rw [bne_iff_ne, ne_eq, hexact]
    exact_mod_cast Iff.rfl
  have hposRat : (0 : Rat) < h := Nat.cast_pos.2 hpos
  split
  · rename_i hcarry
    have hunit' : (2 : Rat) ^ (k + 2 : Int) = 2 * (2 * h) := by rw [show (k + 2 : Int) = k + 1 + 1 by ring, zpow_add_one₀ two_ne_zero, hunit]; ring
    have hvalue : ((2 ^ f.frac : Nat) : Rat) * (2 : Rat) ^ (k + 2 : Int) = q * (2 * h) := by
      rw [hcarry, hunit', pow_succ]
      push_cast
      ring
    refine ⟨le_rfl, Nat.pow_lt_pow_right (by decide) (by omega), ?_, fun htie' => ?_, ?_, ?_⟩
    · rw [hvalue, hunit']
      linarith
    · rw [hvalue, hunit'] at htie'
      linarith
    · rw [hvalue]
      exact hlost
    · rw [if_pos (hthreshold.2 hcarry)]
      omega
  · rename_i hcarry
    refine ⟨hqLow, lt_of_le_of_ne hqHigh hcarry, ?_, fun htie' => ?_, ?_, ?_⟩
    · rw [hunit]
      linarith
    · rw [hunit] at htie'
      exact heven (by linarith)
    · rw [hunit]
      exact hlost
    · rw [if_neg (fun h => hcarry (hthreshold.1 h))]
      omega

/-- What rounding to the length of the significand does to a number that is not zero. -/
theorem Fmt.roundsTo_roundBits (f : Fmt) {m : Nat} (hm : m ≠ 0) :
    f.RoundsTo m (f.roundBits m).1 (f.roundExp m) (f.roundBits m).2.2 := by
  by_cases h : m.log2 ≤ f.frac
  · rw [Fmt.roundExp, if_pos h, Fmt.roundBits_of_le h]
    exact Fmt.roundsTo_of_le hm h
  · obtain ⟨k, hk⟩ := Nat.exists_eq_add_of_lt (not_le.1 h)
    have hspec := Fmt.roundsTo_of_lt hm hk
    rw [Fmt.roundExp, if_neg h, Fmt.roundBits_of_lt hk]
    by_cases hcarry : roundShift m k = 2 ^ (f.frac + 1)
    · rw [if_pos hcarry] at hspec ⊢
      exact_mod_cast hspec
    · rw [if_neg hcarry] at hspec ⊢
      exact_mod_cast hspec

/-! ### Magnitudes -/

theorem Fp.abs_toRat_fin (neg : Bool) (m : Nat) (e : Int) : |(Fp.fin neg m e).toRat| = m * (2 : Rat) ^ e := by
  have h : 0 ≤ (m : Rat) * (2 : Rat) ^ e := by positivity
  cases neg <;> simp [Fp.toRat_fin, abs_of_nonneg h]

/-- Two numbers of one sign are as far apart as their magnitudes. -/
theorem Fp.abs_toRat_sub (neg : Bool) (m b : Nat) (e j : Int) :
    |(Fp.fin neg b j).toRat - (Fp.fin neg m e).toRat| = |(b * (2 : Rat) ^ j - m * (2 : Rat) ^ e : Rat)| := by
  cases neg
  · simp [Fp.toRat_fin]
  · rw [← abs_neg]
    simp [Fp.toRat_fin, neg_add_eq_sub]

theorem Fp.toRat_fin_inj (neg : Bool) (m b : Nat) (e j : Int) :
    (Fp.fin neg b j).toRat = (Fp.fin neg m e).toRat ↔ (b * (2 : Rat) ^ j : Rat) = m * (2 : Rat) ^ e := by
  cases neg <;> simp [Fp.toRat_fin]

/-- A number lies between the powers of two by the length of its significand. -/
theorem zpow_le_mul_zpow_iff {m : Nat} (hm : m ≠ 0) (e n : Int) :
    (2 : Rat) ^ n ≤ m * (2 : Rat) ^ e ↔ n ≤ e + m.log2 := by
  have hlow : (2 : Rat) ^ (e + m.log2) ≤ m * (2 : Rat) ^ e := by
    rw [add_comm, zpow_add₀ two_ne_zero, zpow_natCast]
    have : (2 ^ m.log2 : Rat) ≤ m := by exact_mod_cast Nat.log2_self_le hm
    gcongr
  have hhigh : m * (2 : Rat) ^ e < (2 : Rat) ^ (e + m.log2 + 1) := by
    rw [add_assoc, add_comm, zpow_add₀ two_ne_zero]
    have : (m : Rat) < (2 : Rat) ^ ((m.log2 : Int) + 1) := by exact_mod_cast Nat.lt_log2_self (n := m)
    gcongr
  constructor
  · intro h
    have := (zpow_lt_zpow_iff_right₀ (one_lt_two (α := Rat))).1 (h.trans_lt hhigh)
    omega
  · intro h
    exact ((zpow_le_zpow_iff_right₀ (one_lt_two (α := Rat))).2 h).trans hlow

/-- A magnitude below the least normalized one. -/
def Fmt.Under (f : Fmt) (q : Rat) : Prop := |q| < (2 : Rat) ^ f.emin

/-- A magnitude at least half a unit above the greatest one of the format. -/
def Fmt.Over (f : Fmt) (q : Rat) : Prop :=
  (2 ^ (f.frac + 2) - 1 : Rat) * (2 : Rat) ^ ((f.bias : Int) - f.frac - 1) ≤ |q|

theorem Fmt.under_iff (f : Fmt) (neg : Bool) {m : Nat} (hm : m ≠ 0) (e : Int) :
    f.Under (Fp.fin neg m e).toRat ↔ e + m.log2 < f.emin := by
  rw [Fmt.Under, Fp.abs_toRat_fin, ← not_le, zpow_le_mul_zpow_iff hm, not_le]

/-- Overflow is told after rounding: half a unit above the greatest number rounds to the next power of two. -/
theorem Fmt.over_iff (f : Fmt) (neg : Bool) {m : Nat} (hm : m ≠ 0) (e : Int) :
    f.Over (Fp.fin neg m e).toRat ↔ (f.bias : Int) < e + f.roundExp m + f.frac := by
  have hexp := (f.roundsTo_roundBits hm).exponent
  have htop : (2 ^ (f.frac + 2) - 1 : Rat) * (2 : Rat) ^ ((f.bias : Int) - f.frac - 1) ≤ (2 : Rat) ^ ((f.bias : Int) + 1) ∧
      (2 : Rat) ^ (f.bias : Int) ≤ (2 ^ (f.frac + 2) - 1 : Rat) * (2 : Rat) ^ ((f.bias : Int) - f.frac - 1) := by
    have hunit : (0 : Rat) < (2 : Rat) ^ ((f.bias : Int) - f.frac - 1) := by positivity
    have hone : (1 : Rat) ≤ 2 ^ (f.frac + 1) := one_le_pow₀ one_le_two
    have h1 : (2 : Rat) ^ ((f.bias : Int) + 1) = 2 ^ (f.frac + 2) * (2 : Rat) ^ ((f.bias : Int) - f.frac - 1) := by
      rw [← zpow_natCast, ← zpow_add₀ two_ne_zero]
      congr 1
      push_cast
      ring
    have h2 : (2 : Rat) ^ (f.bias : Int) = 2 ^ (f.frac + 1) * (2 : Rat) ^ ((f.bias : Int) - f.frac - 1) := by
      rw [← zpow_natCast 2 (f.frac + 1), ← zpow_add₀ two_ne_zero]
      congr 1
      push_cast
      ring
    have h3 : (2 : Rat) ^ (f.frac + 2) = 2 * 2 ^ (f.frac + 1) := by ring
    rw [h1, h2]
    constructor
    · gcongr
      linarith
    · gcongr
      linarith
  rw [Fmt.Over, Fp.abs_toRat_fin]
  rcases lt_trichotomy (e + m.log2) f.bias with h | h | h
  · have hno : ¬(2 : Rat) ^ (f.bias : Int) ≤ m * (2 : Rat) ^ e := fun h' => by
      have := (zpow_le_mul_zpow_iff hm e f.bias).1 h'
      omega
    have hexp' : ¬(f.bias : Int) < e + f.roundExp m + f.frac := by
      split at hexp <;> omega
    exact iff_of_false (fun h' => hno (htop.2.trans h')) hexp'
  · have hscale : (2 : Rat) ^ ((f.bias : Int) - f.frac - 1) = (2 : Rat) ^ ((m.log2 : Int) - f.frac - 1) * (2 : Rat) ^ e := by
      rw [← zpow_add₀ two_ne_zero]
      congr 1
      omega
    rw [hscale, ← mul_assoc, mul_le_mul_iff_left₀ (by positivity)]
    split at hexp
    · rename_i hle
      exact iff_of_true hle (by omega)
    · rename_i hle
      exact iff_of_false hle (by omega)
  · have hyes : (2 : Rat) ^ ((f.bias : Int) + 1) ≤ m * (2 : Rat) ^ e := (zpow_le_mul_zpow_iff hm e _).2 (by omega)
    have hexp' : (f.bias : Int) < e + f.roundExp m + f.frac := by
      split at hexp <;> omega
    exact iff_of_true (htop.1.trans hyes) hexp'

/-! ### Rounding (R659) -/

/-- I for bits that were lost. -/
def lostDet (lost : Bool) : Det := if lost then Det.i else 0

/-- Rounding by the exponent of the number before it and after it. -/
theorem Fmt.round_fin (f : Fmt) (env : FpEnv) (neg : Bool) (m : Nat) (e : Int) :
    f.round env (.fin neg m e) =
      if e + m.log2 < f.emin then
        (.zero neg, Det.u ||| lostDet (f.roundBits m).2.2 |||
          lostDet (!env.xe.getLsbD 1 || env.cfg.fpOuAlwaysI))
      else if (f.bias : Int) < e + f.roundExp m + f.frac then
        (.inf neg, Det.o ||| lostDet (f.roundBits m).2.2 |||
          lostDet (!env.xe.getLsbD 2 || env.cfg.fpOuAlwaysI))
      else (.fin neg (f.roundBits m).1 (e + f.roundExp m), lostDet (f.roundBits m).2.2) := by
  have hexp : (if m.log2 ≤ f.frac then e - (f.frac - m.log2 : Nat) else e + (f.roundBits m).2.1) = e + f.roundExp m := by
    unfold Fmt.roundExp
    split
    · exact sub_eq_add_neg _ _
    · rfl
  simp only [Fmt.round, hexp]
  rfl

/-- A number that rounding keeps in the range of the format is a normalized one nearest to it. -/
theorem Fmt.nearest_round (f : Fmt) (neg : Bool) {m : Nat} (hm : m ≠ 0) {e : Int} (hlow : ¬e + m.log2 < f.emin)
    (hhigh : ¬(f.bias : Int) < e + f.roundExp m + f.frac) :
    f.Nearest (.fin neg (f.roundBits m).1 (e + f.roundExp m)) (lostDet (f.roundBits m).2.2) neg (Fp.fin neg m e).toRat := by
  obtain ⟨hlower, hupper, hnear, htie, hlost, hexp⟩ := f.roundsTo_roundBits hm
  generalize (f.roundBits m).1 = b at *
  generalize (f.roundBits m).2.2 = lost at *
  generalize f.roundExp m = s at *
  have hscale : (b : Rat) * (2 : Rat) ^ (e + s) - m * (2 : Rat) ^ e = (b * (2 : Rat) ^ s - m) * (2 : Rat) ^ e := by
    rw [add_comm, zpow_add₀ two_ne_zero]
    ring
  have hpos : (0 : Rat) < (2 : Rat) ^ e := by positivity
  have hdist : 2 * |(Fp.fin neg b (e + s)).toRat - (Fp.fin neg m e).toRat| = 2 * |(b * (2 : Rat) ^ s - m : Rat)| * (2 : Rat) ^ e := by
    rw [Fp.abs_toRat_sub, hscale, abs_mul, abs_of_pos hpos, mul_assoc]
  have hunit : (2 : Rat) ^ (e + s) = (2 : Rat) ^ s * (2 : Rat) ^ e := by rw [add_comm, zpow_add₀ two_ne_zero]
  refine ⟨b, e + s, rfl, ⟨hlower, hupper, ?_, by omega⟩, ?_, fun h => htie ?_, ?_⟩
  · split at hexp <;> omega
  · rw [hdist, hunit]
    gcongr
  · rw [hdist, hunit] at h
    exact mul_right_cancel₀ hpos.ne' h
  · have hsame : (Fp.fin neg b (e + s)).toRat = (Fp.fin neg m e).toRat ↔ (b : Rat) * (2 : Rat) ^ s = m := by
      rw [Fp.toRat_fin_inj, hunit, ← mul_assoc, mul_left_inj' hpos.ne']
    rw [lostDet]
    by_cases h : (b : Rat) * (2 : Rat) ^ s = m
    · rw [if_pos (hsame.2 h), if_neg (fun h' => hlost.1 h' h)]
    · rw [if_neg (fun h' => h (hsame.1 h')), if_pos (hlost.2 h)]

theorem det_under : ∀ a b : Bool, (Det.u ||| lostDet a ||| lostDet b) &&& Det.u ≠ 0 ∧
    (Det.u ||| lostDet a ||| lostDet b) &&& Det.o = 0 ∧ (b = true → (Det.u ||| lostDet a ||| lostDet b) &&& Det.i ≠ 0) := by
  decide

theorem det_over : ∀ a b : Bool, (Det.o ||| lostDet a ||| lostDet b) &&& Det.u = 0 ∧
    (Det.o ||| lostDet a ||| lostDet b) &&& Det.o ≠ 0 ∧ (b = true → (Det.o ||| lostDet a ||| lostDet b) &&& Det.i ≠ 0) := by
  decide

theorem det_lost : ∀ a : Bool, lostDet a &&& Det.u = 0 ∧ lostDet a &&& Det.o = 0 := by decide

/-- What rounding a number that is not zero detects, and what it gives: the cases exclude each other. -/
theorem Fmt.round_cases {f : Fmt} (hf : f.Regular) (env : FpEnv) (neg : Bool) {m : Nat} (hm : m ≠ 0) (e : Int) :
    let q := (Fp.fin neg m e).toRat
    let r := f.round env (.fin neg m e)
    (f.Under q ∧ ¬f.Over q ∧ r.1 = .zero neg ∧ r.2 &&& Det.u ≠ 0 ∧ r.2 &&& Det.o = 0 ∧
        (env.xe.getLsbD 1 = false → r.2 &&& Det.i ≠ 0)) ∨
      (¬f.Under q ∧ f.Over q ∧ r.1 = .inf neg ∧ r.2 &&& Det.u = 0 ∧ r.2 &&& Det.o ≠ 0 ∧
        (env.xe.getLsbD 2 = false → r.2 &&& Det.i ≠ 0)) ∨
      (¬f.Under q ∧ ¬f.Over q ∧ r.2 &&& Det.u = 0 ∧ r.2 &&& Det.o = 0 ∧ f.Nearest r.1 r.2 neg q) := by
  have hexp := (f.roundsTo_roundBits hm).exponent
  have hbias := hf.emin_le_bias
  have hmasked {b : Bool} (h : b = false) : (!b || env.cfg.fpOuAlwaysI) = true := by rw [h]; rfl
  simp only [Fmt.under_iff f neg hm, Fmt.over_iff f neg hm, Fmt.round_fin]
  by_cases hu : e + m.log2 < f.emin
  · have ho : ¬(f.bias : Int) < e + f.roundExp m + f.frac := by
      split at hexp <;> omega
    obtain ⟨hdetU, hdetO, hdetI⟩ := det_under (f.roundBits m).2.2 (!env.xe.getLsbD 1 || env.cfg.fpOuAlwaysI)
    rw [if_pos hu]
    exact .inl ⟨hu, ho, rfl, hdetU, hdetO, fun h => hdetI (hmasked h)⟩
  · by_cases ho : (f.bias : Int) < e + f.roundExp m + f.frac
    · obtain ⟨hdetU, hdetO, hdetI⟩ := det_over (f.roundBits m).2.2 (!env.xe.getLsbD 2 || env.cfg.fpOuAlwaysI)
      rw [if_neg hu, if_pos ho]
      exact .inr (.inl ⟨hu, ho, rfl, hdetU, hdetO, fun h => hdetI (hmasked h)⟩)
    · obtain ⟨hdetU, hdetO⟩ := det_lost (f.roundBits m).2.2
      rw [if_neg hu, if_neg ho]
      exact .inr (.inr ⟨hu, ho, hdetU, hdetO, f.nearest_round neg hm hu ho⟩)

end Sys2Proof.Machine
end

section
/-! PROOFS. Bit patterns of a format: a pattern by its sign, exponent and fraction, its kind and its operand, and what packing
gives (O56, O57, O59). -/
namespace Sys2Proof.Machine

/-! ### Fields of a pattern (R650) -/

/-- A pattern of a sign, an exponent and a fraction that fit their fields. -/
structure Fmt.Fields (f : Fmt) (e m : Nat) : Prop where
  exponent_lt : e < 2 ^ f.expBits
  fraction_lt : m < 2 ^ f.frac

namespace Fmt.Fields
variable {f : Fmt} {e m : Nat} (h : f.Fields e m) (neg : Bool)
include h

theorem magnitude_lt : e * 2 ^ f.frac + m < 2 ^ (f.frac + f.expBits) := by
  have hmul : (e + 1) * 2 ^ f.frac ≤ 2 ^ f.expBits * 2 ^ f.frac := Nat.mul_le_mul_right _ h.exponent_lt
  rw [Nat.succ_mul, ← pow_add, add_comm f.expBits] at hmul
  have := h.fraction_lt
  omega

theorem toNat_bits (hf : f.Regular) :
    (f.bits neg e m).toNat = 2 ^ (f.frac + f.expBits) * neg.toNat + (e * 2 ^ f.frac + m) := by
  have hlt := h.magnitude_lt
  have hwidth : 2 ^ (f.frac + f.expBits) * 2 ≤ 2 ^ 64 := by
    rw [← pow_succ]
    exact Nat.pow_le_pow_right two_pos hf.width_le
  rw [Fmt.bits, BitVec.toNat_ofNat, add_assoc, mul_comm neg.toNat, Nat.mod_eq_of_lt]
  cases neg <;> simp <;> omega

theorem sign_bits (hf : f.Regular) : (f.bits neg e m).toNat.testBit (f.frac + f.expBits) = neg := by
  rw [h.toNat_bits neg hf, Nat.testBit_two_pow_mul_add _ h.magnitude_lt]
  cases neg <;> simp

theorem exponent_bits (hf : f.Regular) : (f.bits neg e m).toNat / 2 ^ f.frac % 2 ^ f.expBits = e := by
  have hsplit : 2 ^ (f.frac + f.expBits) * neg.toNat + (e * 2 ^ f.frac + m) =
      2 ^ f.frac * (2 ^ f.expBits * neg.toNat + e) + m := by
    rw [pow_add]
    ring
  rw [h.toNat_bits neg hf, hsplit, Nat.mul_add_div (by positivity), Nat.div_eq_of_lt h.fraction_lt, add_zero,
    Nat.mul_add_mod, Nat.mod_eq_of_lt h.exponent_lt]

theorem fraction_bits (hf : f.Regular) : (f.bits neg e m).toNat % 2 ^ f.frac = m := by
  have hsplit : 2 ^ (f.frac + f.expBits) * neg.toNat + (e * 2 ^ f.frac + m) =
      2 ^ f.frac * (2 ^ f.expBits * neg.toNat + e) + m := by
    rw [pow_add]
    ring
  rw [h.toNat_bits neg hf, hsplit, Nat.mul_add_mod, Nat.mod_eq_of_lt h.fraction_lt]

theorem getLsbD_bits {i : Nat} (hi : i < 64) : (f.bits neg e m).getLsbD i =
    if i < f.frac + f.expBits then (e * 2 ^ f.frac + m).testBit i else decide (i = f.frac + f.expBits) && neg := by
  rw [Fmt.bits, BitVec.getLsbD_ofNat, add_assoc, mul_comm neg.toNat, Nat.testBit_two_pow_mul_add _ h.magnitude_lt]
  simp only [hi, decide_true, Bool.true_and]
  split
  · rfl
  · rename_i hge
    have hsub : i - (f.frac + f.expBits) = 0 ↔ i = f.frac + f.expBits := by omega
    have hone : Nat.testBit 1 (i - (f.frac + f.expBits)) = decide (i = f.frac + f.expBits) := by
      rw [← pow_zero 2, Nat.testBit_two_pow, decide_eq_decide]
      exact eq_comm.trans hsub
    cases neg <;> simp [hone]

end Fmt.Fields

/-- A pattern of the width of the format has three fields. -/
theorem Fmt.Fits.exists_fields {f : Fmt} {w : DWord} (hw : f.Fits w) (hf : f.Regular) :
    ∃ neg e m, f.Fields e m ∧ w = f.bits neg e m := by
  have hfields : f.Fields (w.toNat / 2 ^ f.frac % 2 ^ f.expBits) (w.toNat % 2 ^ f.frac) :=
    ⟨Nat.mod_lt _ (by positivity), Nat.mod_lt _ (by positivity)⟩
  have hsign : w.toNat / 2 ^ (f.frac + f.expBits) < 2 := by
    rw [Nat.div_lt_iff_lt_mul (by positivity), ← pow_succ']
    exact hw
  refine ⟨w.toNat.testBit (f.frac + f.expBits), _, _, hfields, BitVec.eq_of_toNat_eq ?_⟩
  rw [hfields.toNat_bits _ hf, Nat.toNat_testBit, Nat.mod_eq_of_lt hsign, add_comm (_ * 2 ^ f.frac),
    mul_comm (_ % 2 ^ f.expBits), ← Nat.mod_mul, ← pow_add, Nat.div_add_mod]

/-! ### Operands and kinds (R650, R656, R657) -/

section
variable {f : Fmt} {e m : Nat} (h : f.Fields e m) (neg : Bool)
include h

theorem Fmt.unpack_bits (hf : f.Regular) : f.unpack (f.bits neg e m) =
    if e = 2 ^ f.expBits - 1 then ⟨if m = 0 then .inf neg else .nan (m.testBit (f.frac - 1)), false⟩
    else if e = 0 then ⟨.zero neg, m != 0⟩
    else ⟨.fin neg (2 ^ f.frac + m) ((e : Int) - f.bias - f.frac), false⟩ := by
  simp only [Fmt.unpack, h.sign_bits neg hf, h.exponent_bits neg hf, h.fraction_bits neg hf]

theorem Fmt.kind_bits (hf : f.Regular) : f.kind (f.bits neg e m) =
    if e = 2 ^ f.expBits - 1 then if m = 0 then .inf neg else .nan (decide (2 ^ (f.frac - 1) ≤ m))
    else if e = 0 then if m = 0 then .zero neg else .denormal neg
    else .normal neg := by
  simp only [Fmt.kind, h.sign_bits neg hf, h.exponent_bits neg hf, h.fraction_bits neg hf]

omit h in
theorem Fmt.getLsbD_signBit (f : Fmt) {i : Nat} (hi : i < 64) :
    f.signBit.getLsbD i = decide (i = f.frac + f.expBits) := by
  rw [Fmt.signBit, BitVec.getLsbD_ofNat, Nat.testBit_two_pow]
  simp [hi, eq_comm]

theorem Fmt.bits_xor_signBit : f.bits neg e m ^^^ f.signBit = f.bits (!neg) e m := by
  refine BitVec.eq_of_getLsbD_eq fun i hi => ?_
  rw [BitVec.getLsbD_xor, h.getLsbD_bits _ hi, h.getLsbD_bits _ hi, f.getLsbD_signBit hi]
  by_cases hlt : i < f.frac + f.expBits
  · simp [hlt, hlt.ne]
  · by_cases heq : i = f.frac + f.expBits <;> simp [hlt, heq]

theorem Fmt.bits_or_signBit : f.bits neg e m ||| f.signBit = f.bits true e m := by
  refine BitVec.eq_of_getLsbD_eq fun i hi => ?_
  rw [BitVec.getLsbD_or, h.getLsbD_bits _ hi, h.getLsbD_bits _ hi, f.getLsbD_signBit hi]
  by_cases hlt : i < f.frac + f.expBits
  · simp [hlt, hlt.ne]
  · by_cases heq : i = f.frac + f.expBits <;> simp [hlt, heq]

theorem Fmt.bits_and_not_signBit : f.bits neg e m &&& ~~~f.signBit = f.bits false e m := by
  refine BitVec.eq_of_getLsbD_eq fun i hi => ?_
  rw [BitVec.getLsbD_and, BitVec.getLsbD_not, h.getLsbD_bits _ hi, h.getLsbD_bits _ hi, f.getLsbD_signBit hi]
  by_cases hlt : i < f.frac + f.expBits
  · simp [hlt, hlt.ne, hi]
  · by_cases heq : i = f.frac + f.expBits <;> simp [hlt, heq]

end

/-! ### Packing -/

section
variable {f : Fmt}

theorem Fmt.fields_zero (f : Fmt) : f.Fields 0 0 := ⟨by positivity, by positivity⟩

theorem Fmt.fields_inf (f : Fmt) : f.Fields (2 ^ f.expBits - 1) 0 :=
  ⟨Nat.sub_lt (by positivity) one_pos, by positivity⟩

theorem Fmt.zeroOf_eq_bits (f : Fmt) (neg : Bool) : f.zeroOf neg = f.bits neg 0 0 := by
  cases neg <;> simp [Fmt.zeroOf, Fmt.bits, Fmt.signBit]

theorem Fmt.infOf_eq_bits (f : Fmt) (neg : Bool) : f.infOf neg = f.bits neg (2 ^ f.expBits - 1) 0 := by
  have hpos : BitVec.ofNat 64 ((2 ^ f.expBits - 1) * 2 ^ f.frac) = f.bits false (2 ^ f.expBits - 1) 0 := by
    simp [Fmt.bits]
  rw [Fmt.infOf, hpos]
  cases neg with
  | false => exact BitVec.or_zero
  | true => exact Fmt.bits_or_signBit f.fields_inf false

/-- The fields of a normalized number. -/
theorem Fmt.Normal.fields {m : Nat} {e : Int} (h : f.Normal m e) (hf : f.Regular) :
    f.Fields (e + f.frac + f.bias).toNat (m - 2 ^ f.frac) ∧ (e + f.frac + f.bias).toNat ≠ 0 ∧
      (e + f.frac + f.bias).toNat ≠ 2 ^ f.expBits - 1 := by
  obtain ⟨hlow, hhigh, hmin, hmax⟩ := h
  have hexp := hf.two_pow_expBits
  have hfrac : 2 ^ (f.frac + 1) = 2 * 2 ^ f.frac := pow_succ' 2 _
  unfold Fmt.emin at hmin
  exact ⟨⟨by omega, by omega⟩, by omega, by omega⟩

theorem Fmt.unpack_pack_fin (hf : f.Regular) (cfg : Config) (neg : Bool) {m : Nat} {e : Int} (h : f.Normal m e) :
    f.unpack (f.pack cfg (.fin neg m e)) = ⟨.fin neg m e, false⟩ := by
  obtain ⟨hfields, hne, hne'⟩ := h.fields hf
  obtain ⟨hlow, -, hmin, -⟩ := h
  unfold Fmt.emin at hmin
  rw [Fmt.pack, Fmt.unpack_bits hfields neg hf, if_neg hne', if_neg hne]
  congr
  · omega
  · omega

theorem Fmt.kind_pack_fin (hf : f.Regular) (cfg : Config) (neg : Bool) {m : Nat} {e : Int} (h : f.Normal m e) :
    f.kind (f.pack cfg (.fin neg m e)) = .normal neg := by
  obtain ⟨hfields, hne, hne'⟩ := h.fields hf
  rw [Fmt.pack, Fmt.kind_bits hfields neg hf, if_neg hne', if_neg hne]

end

/-- Settles O59. -/
theorem fpRounding : Obligations.FpRounding := by
  intro f env neg m e hformat hm q r below beyond
  have hf := Fmt.regular_of_eq hformat
  rcases Fmt.round_cases hf env neg hm e with ⟨hu, ho, hr, hdetU, hdetO, hmask⟩ | ⟨hu, ho, hr, hdetU, hdetO, hmask⟩ |
    ⟨hu, ho, hdetU, hdetO, hnear⟩
  · exact ⟨iff_of_true hdetU hu, iff_of_false (not_not.2 hdetO) ho, fun _ => ⟨hr, hmask⟩, fun h => absurd h ho,
      fun h => absurd hu h⟩
  · exact ⟨iff_of_false (not_not.2 hdetU) hu, iff_of_true hdetO ho, fun h => absurd h hu, fun _ => ⟨hr, hmask⟩,
      fun _ h => absurd ho h⟩
  · refine ⟨iff_of_false (not_not.2 hdetU) hu, iff_of_false (not_not.2 hdetO) ho, fun h => absurd h hu,
      fun h => absurd h ho, fun _ _ => ⟨hnear, ?_⟩⟩
    obtain ⟨k, j, hr, hnormal, -⟩ := hnear
    rw [hr]
    exact Fmt.unpack_pack_fin hf env.cfg neg hnormal

end Sys2Proof.Machine
end

section
/-! PROOFS. Results that are found to more bits than the format has and rounded once: a bit that says that something was lost
below them is enough for rounding to be that of the exact result (O58). -/
namespace Sys2Proof.Machine

/-! ### Rounding a number with a bit for what was lost (R659) -/

/-- Half a unit stands for what was lost. -/
theorem jam_toRat (neg : Bool) (m : Nat) (e : Int) (lost : Bool) :
    (jam neg m e lost).toRat = (if neg then -1 else 1) * ((m + (if lost then 1 / 2 else 0) : Rat) * (2 : Rat) ^ e) := by
  cases lost with
  | false => cases neg <;> simp [jam, Fp.toRat_fin]
  | true =>
    have hhalf : ((2 * m + 1 : Nat) : Rat) * (2 : Rat) ^ (e - 1) = (m + 1 / 2) * (2 : Rat) ^ e := by
      rw [zpow_sub_one₀ two_ne_zero]
      push_cast
      ring
    cases neg <;> simp only [jam, Fp.toRat_fin, hhalf, if_true] <;> simp

theorem det_inRange_iff : ∀ d : Det, d &&& (Det.o ||| Det.u) = 0 ↔ d &&& Det.o = 0 ∧ d &&& Det.u = 0 := by decide

/-- A number that is rounded without overflow and underflow goes to a nearest one. -/
theorem Fmt.nearest_of_inRange {f : Fmt} (hf : f.Regular) (env : FpEnv) (neg : Bool) {m : Nat} (hm : m ≠ 0) (e : Int)
    (hrange : (f.round env (.fin neg m e)).2 &&& (Det.o ||| Det.u) = 0) :
    f.Nearest (f.round env (.fin neg m e)).1 (f.round env (.fin neg m e)).2 neg (Fp.fin neg m e).toRat := by
  obtain ⟨hdetO, hdetU⟩ := (det_inRange_iff _).1 hrange
  rcases Fmt.round_cases hf env neg hm e with ⟨-, -, -, h, -⟩ | ⟨-, -, -, -, h, -⟩ | ⟨-, -, -, -, hnear⟩
  · exact absurd hdetU h
  · exact absurd hdetO h
  · exact hnear

theorem Fmt.nearest_of_inRange_jam {f : Fmt} (hf : f.Regular) (env : FpEnv) (neg : Bool) {m : Nat} (hm : m ≠ 0) (e : Int)
    (lost : Bool) (hrange : (f.round env (jam neg m e lost)).2 &&& (Det.o ||| Det.u) = 0) :
    f.Nearest (f.round env (jam neg m e lost)).1 (f.round env (jam neg m e lost)).2 neg (jam neg m e lost).toRat := by
  cases lost with
  | false => exact Fmt.nearest_of_inRange hf env neg hm e hrange
  | true => exact Fmt.nearest_of_inRange hf env neg (Nat.succ_ne_zero _) (e - 1) hrange

/-- `r` is `k * 2 ^ (d + 1)` units of `2 ^ e`, and lies as near to `m` units as to any number between these and, if bits were
lost, the next unit; `det` says whether it differs from it. -/
structure Fmt.JamNearest (f : Fmt) (r : Fp) (det : Det) (neg : Bool) (m : Nat) (e : Int) (lost : Bool) (k d : Nat) : Prop where
  eq : r = .fin neg k (e + 1 + d)
  normal : f.Normal k (e + 1 + d)
  le_add : k * 2 ^ (d + 1) ≤ m + 2 ^ d
  add_le : m + lost.toNat ≤ k * 2 ^ (d + 1) + 2 ^ d
  tie : lost = false → k * 2 ^ (d + 1) = m + 2 ^ d ∨ m = k * 2 ^ (d + 1) + 2 ^ d → k % 2 = 0
  det_eq : det = if lost = false ∧ k * 2 ^ (d + 1) = m then 0 else Det.i

theorem Fp.abs_toRat_sub_signed (neg : Bool) (b : Nat) (j : Int) (x : Rat) :
    |(Fp.fin neg b j).toRat - (if neg then -1 else 1) * x| = |(b * (2 : Rat) ^ j - x : Rat)| := by
  cases neg
  · simp [Fp.toRat_fin]
  · rw [← abs_neg]
    simp [Fp.toRat_fin, neg_add_eq_sub]

theorem Fp.toRat_fin_eq_signed (neg : Bool) (b : Nat) (j : Int) (x : Rat) :
    (Fp.fin neg b j).toRat = (if neg then -1 else 1) * x ↔ (b * (2 : Rat) ^ j : Rat) = x := by
  cases neg <;> simp [Fp.toRat_fin]

/-- A number of more than `f.frac + 1` bits is rounded at a unit above its own. -/
theorem Fmt.Normal.lt_of_near {f : Fmt} {k : Nat} {j e : Int} {c : Rat} (h : f.Normal k j)
    (hc : (2 : Rat) ^ (f.frac + 1) ≤ c) (hnear : 2 * |k * (2 : Rat) ^ j - c * (2 : Rat) ^ e| ≤ (2 : Rat) ^ j) : e < j := by
  obtain ⟨-, hk, -, -⟩ := h
  by_contra hle
  have hk' : (k : Rat) + 1 ≤ 2 ^ (f.frac + 1) := by exact_mod_cast hk
  have hpos : (0 : Rat) < (2 : Rat) ^ j := by positivity
  have hpow : (2 : Rat) ^ j ≤ (2 : Rat) ^ e := (zpow_le_zpow_iff_right₀ one_lt_two).2 (not_lt.1 hle)
  have hbelow : (k + 1) * (2 : Rat) ^ j ≤ c * (2 : Rat) ^ e := by
    calc (k + 1) * (2 : Rat) ^ j ≤ c * (2 : Rat) ^ j := by gcongr; exact hk'.trans hc
      _ ≤ c * (2 : Rat) ^ e := by
        have : 0 ≤ c := le_trans (by positivity) hc
        gcongr
  have hgap := (abs_le.1 (show |k * (2 : Rat) ^ j - c * (2 : Rat) ^ e| ≤ (2 : Rat) ^ j / 2 by linarith)).1
  linarith

/-- A number with a bit for what was lost is rounded at a bit above that one. -/
theorem Fmt.Nearest.jamNearest {f : Fmt} {r : Fp} {det : Det} {neg : Bool} {m : Nat} {e : Int} {lost : Bool}
    (h : f.Nearest r det neg (jam neg m e lost).toRat) (hm : 2 ^ (f.frac + 1) ≤ m) :
    ∃ k d, f.JamNearest r det neg m e lost k d := by
  obtain ⟨k, j, rfl, hnormal, hnear, htie, hdet⟩ := h
  rw [jam_toRat, Fp.abs_toRat_sub_signed] at hnear htie
  simp only [jam_toRat, Fp.toRat_fin_eq_signed] at hdet
  have hc : (2 : Rat) ^ (f.frac + 1) ≤ m + (if lost then 1 / 2 else 0) := by
    have h1 : (2 : Rat) ^ (f.frac + 1) ≤ m := by exact_mod_cast hm
    have h2 : (0 : Rat) ≤ if lost then 1 / 2 else 0 := by split <;> norm_num
    linarith
  obtain ⟨d, hd⟩ := Int.le.dest (show e + 1 ≤ j from hnormal.lt_of_near hc hnear)
  obtain rfl : j = e + 1 + d := hd.symm
  have hunit : (2 : Rat) ^ (e + 1 + d) = 2 ^ (d + 1) * (2 : Rat) ^ e := by
    rw [add_assoc, add_comm, zpow_add₀ two_ne_zero, ← zpow_natCast]
    congr 2
    push_cast
    ring
  have hpos : (0 : Rat) < (2 : Rat) ^ e := by positivity
  have hdist (c : Rat) : 2 * |k * (2 : Rat) ^ (e + 1 + d) - c * (2 : Rat) ^ e| =
      2 * |(k * 2 ^ (d + 1) : Rat) - c| * (2 : Rat) ^ e := by
    rw [hunit, ← mul_assoc, ← sub_mul, abs_mul, abs_of_pos hpos, mul_assoc]
  have hhalf : (2 : Rat) ^ (d + 1) = 2 * 2 ^ d := pow_succ' 2 d
  have hsame (c : Rat) : k * (2 : Rat) ^ (e + 1 + d) = c * (2 : Rat) ^ e ↔ (k * 2 ^ (d + 1) : Rat) = c := by
    rw [hunit, ← mul_assoc, mul_left_inj' hpos.ne']
  rw [hdist, hunit, mul_le_mul_iff_left₀ hpos] at hnear
  rw [hdist, hunit, mul_left_inj' hpos.ne'] at htie
  simp only [hsame] at hdet
  obtain ⟨hge, hle⟩ := abs_le.1 (show |(k * 2 ^ (d + 1) : Rat) - (m + (if lost then 1 / 2 else 0))| ≤ 2 ^ d by linarith)
  cases lost with
  | false =>
    simp only [Bool.false_eq_true, if_false, add_zero] at hge hle htie hdet
    have hup : k * 2 ^ (d + 1) ≤ m + 2 ^ d := by exact_mod_cast (by linarith : (k * 2 ^ (d + 1) : Rat) ≤ m + 2 ^ d)
    have hdown : m ≤ k * 2 ^ (d + 1) + 2 ^ d := by exact_mod_cast (by linarith : (m : Rat) ≤ k * 2 ^ (d + 1) + 2 ^ d)
    refine ⟨k, d, rfl, hnormal, hup, hdown, fun _ h => htie ?_, ?_⟩
    · have hgap : |(k * 2 ^ (d + 1) : Rat) - m| = 2 ^ d := by
        rcases h with h | h
        · have h' : (k * 2 ^ (d + 1) : Rat) = m + 2 ^ d := by exact_mod_cast h
          rw [h', add_sub_cancel_left, abs_of_pos (by positivity)]
        · have h' : (m : Rat) = k * 2 ^ (d + 1) + 2 ^ d := by exact_mod_cast h
          rw [h', sub_add_cancel_left, abs_neg, abs_of_pos (by positivity)]
      rw [hgap, hhalf]
    · rw [hdet]
      exact if_congr ⟨fun h => ⟨rfl, by exact_mod_cast h⟩, fun h => by exact_mod_cast h.2⟩ rfl rfl
  | true =>
    simp only [if_true] at hge hle hdet
    have hup : k * 2 ^ (d + 1) < m + 2 ^ d + 1 := by
      exact_mod_cast (by linarith : (k * 2 ^ (d + 1) : Rat) < m + 2 ^ d + 1)
    have hdown : m < k * 2 ^ (d + 1) + 2 ^ d := by exact_mod_cast (by linarith : (m : Rat) < k * 2 ^ (d + 1) + 2 ^ d)
    refine ⟨k, d, rfl, hnormal, by omega, hdown, fun h => Bool.noConfusion h, ?_⟩
    have hne : ¬(k * 2 ^ (d + 1) : Rat) = m + 1 / 2 := by
      intro h
      have h' : 2 * (k * 2 ^ (d + 1)) = 2 * m + 1 := by
        exact_mod_cast (by linarith : 2 * (k * 2 ^ (d + 1) : Rat) = 2 * m + 1)
      omega
    rw [hdet, if_neg hne, if_neg (fun h => Bool.noConfusion h.1)]

/-- What is nearest to the number with the bit is nearest to every number that the bit can stand for. -/
theorem Fmt.JamNearest.nearest {f : Fmt} {r : Fp} {det : Det} {neg : Bool} {m : Nat} {e : Int} {lost : Bool} {k d : Nat}
    (h : f.JamNearest r det neg m e lost k d) {w : Rat} (hlow : m ≤ w) (hhigh : w < m + 1) (hlost : lost = true ↔ w ≠ m) :
    f.Nearest r det neg ((if neg then -1 else 1) * (w * (2 : Rat) ^ e)) := by
  obtain ⟨rfl, hnormal, hle, hge, htie, hdet⟩ := h
  have hpos : (0 : Rat) < (2 : Rat) ^ e := by positivity
  have hunit : (2 : Rat) ^ (e + 1 + d) = 2 * 2 ^ d * (2 : Rat) ^ e := by
    rw [← pow_succ', add_assoc, add_comm, zpow_add₀ two_ne_zero, ← zpow_natCast]
    congr 2
    push_cast
    ring
  have hmul : k * (2 : Rat) ^ (e + 1 + d) = (k * 2 ^ (d + 1) : Rat) * (2 : Rat) ^ e := by
    rw [hunit, pow_succ]
    ring
  have hdist : 2 * |k * (2 : Rat) ^ (e + 1 + d) - w * (2 : Rat) ^ e| = 2 * |(k * 2 ^ (d + 1) : Rat) - w| * (2 : Rat) ^ e := by
    rw [hmul, ← sub_mul, abs_mul, abs_of_pos hpos, mul_assoc]
  have hleRat : (k * 2 ^ (d + 1) : Rat) ≤ m + 2 ^ d := by exact_mod_cast hle
  have hgeRat : (m : Rat) + lost.toNat ≤ k * 2 ^ (d + 1) + 2 ^ d := by exact_mod_cast hge
  refine ⟨k, _, rfl, hnormal, ?_⟩
  rw [Fp.abs_toRat_sub_signed, hdist, hunit, mul_le_mul_iff_left₀ hpos, mul_left_inj' hpos.ne',
    mul_le_mul_iff_right₀ two_pos, mul_right_inj' two_ne_zero, hdet]
  simp only [Fp.toRat_fin_eq_signed, hmul, mul_left_inj' hpos.ne']
  cases lost with
  | false =>
    obtain rfl : w = m := by simpa using hlost
    simp only [Bool.toNat_false, Nat.cast_zero, add_zero] at hgeRat
    refine ⟨abs_le.2 ⟨by linarith, by linarith⟩, fun h => htie rfl ?_, ?_⟩
    · rcases eq_or_eq_neg_of_abs_eq h with h' | h'
      · exact .inl (by exact_mod_cast (by linarith : (k * 2 ^ (d + 1) : Rat) = m + 2 ^ d))
      · exact .inr (by exact_mod_cast (by linarith : (m : Rat) = k * 2 ^ (d + 1) + 2 ^ d))
    · exact if_congr ⟨fun h => by exact_mod_cast h.2, fun h => ⟨rfl, by exact_mod_cast h⟩⟩ rfl rfl
  | true =>
    have hgt : (m : Rat) < w := lt_of_le_of_ne hlow (Ne.symm (hlost.1 rfl))
    simp only [Bool.toNat_true, Nat.cast_one] at hgeRat
    refine ⟨abs_le.2 ⟨by linarith, by linarith⟩, fun h => absurd h (abs_lt.2 ⟨by linarith, by linarith⟩).ne, ?_⟩
    have hne : ¬(k * 2 ^ (d + 1) : Rat) = w := by
      intro h
      have h1 : m < k * 2 ^ (d + 1) := by exact_mod_cast (h ▸ hgt : (m : Rat) < k * 2 ^ (d + 1))
      have h2 : k * 2 ^ (d + 1) < m + 1 := by exact_mod_cast (h ▸ hhigh : (k * 2 ^ (d + 1) : Rat) < m + 1)
      omega
    rw [if_neg hne, if_neg (fun h => Bool.noConfusion h.1)]

/-! ### Quotients (R674, R688) -/

/-- The bits of a quotient that are found, and whether some are not. -/
theorem quotient_between (a : Nat) {b : Nat} (hb : 0 < b) :
    ((a / b : Nat) : Rat) ≤ a / b ∧ (a : Rat) / b < (a / b : Nat) + 1 ∧ ((a % b != 0) = true ↔ (a : Rat) / b ≠ (a / b : Nat)) := by
  have hbRat : (0 : Rat) < b := Nat.cast_pos.2 hb
  have hrem : ((a % b : Nat) : Rat) / b < 1 := by
    rw [div_lt_one hbRat]
    exact_mod_cast Nat.mod_lt a hb
  have hrem' : (0 : Rat) ≤ ((a % b : Nat) : Rat) / b := by positivity
  rw [natCast_div_eq_add a hb]
  refine ⟨by linarith, by linarith, ?_⟩
  rw [bne_iff_ne, ne_eq, ne_eq, add_eq_left, div_eq_zero_iff, or_iff_left hbRat.ne', Nat.cast_eq_zero]

/-- A quotient of significands, rounded in the range of the format, is nearest to the exact one. -/
theorem Fmt.nearest_divFin {f : Fmt} (hf : f.Regular) (env : FpEnv) (neg : Bool) {m m' : Nat} (e e' : Int) (hm : m ≠ 0)
    (hm' : m' ≠ 0) (hlt : m' < 2 ^ (f.frac + 1))
    (hrange : (f.round env (divFin (2 * f.frac + 6) neg m e m' e')).2 &&& (Det.o ||| Det.u) = 0) :
    f.Nearest (f.round env (divFin (2 * f.frac + 6) neg m e m' e')).1
      (f.round env (divFin (2 * f.frac + 6) neg m e m' e')).2 neg
      ((if neg then -1 else 1) * (m * (2 : Rat) ^ e / (m' * (2 : Rat) ^ e'))) := by
  have hlarge : 2 ^ (f.frac + 1) ≤ (m <<< (2 * f.frac + 6)) / m' := by
    rw [Nat.le_div_iff_mul_le (Nat.pos_of_ne_zero hm'), Nat.shiftLeft_eq]
    calc 2 ^ (f.frac + 1) * m' ≤ 2 ^ (f.frac + 1) * 2 ^ (f.frac + 1) := Nat.mul_le_mul_left _ hlt.le
      _ = 2 ^ (2 * f.frac + 2) := by rw [← pow_add]; congr 1; ring
      _ ≤ 2 ^ (2 * f.frac + 6) := Nat.pow_le_pow_right two_pos (by omega)
      _ ≤ m * 2 ^ (2 * f.frac + 6) := Nat.le_mul_of_pos_left _ (Nat.pos_of_ne_zero hm)
  have hne : (m <<< (2 * f.frac + 6)) / m' ≠ 0 := (lt_of_lt_of_le (by positivity) hlarge).ne'
  obtain ⟨k, d, hnear⟩ := (Fmt.nearest_of_inRange_jam hf env neg hne _ _ hrange).jamNearest hlarge
  obtain ⟨hlow, hhigh, hlost⟩ := quotient_between (m <<< (2 * f.frac + 6)) (Nat.pos_of_ne_zero hm')
  have hexact : ((m <<< (2 * f.frac + 6) : Nat) : Rat) / m' * (2 : Rat) ^ (e - e' - (2 * f.frac + 6 : Nat)) =
      m * (2 : Rat) ^ e / (m' * (2 : Rat) ^ e') := by
    rw [zpow_sub₀ two_ne_zero, zpow_sub₀ two_ne_zero, Nat.shiftLeft_eq, zpow_natCast]
    push_cast
    field_simp
  rw [← hexact]
  exact hnear.nearest hlow hhigh hlost

/-! ### Integer square roots -/

theorem isqrt_spec (m : Nat) : ∀ k r : Nat, r * r ≤ m → m < (r + 2 ^ k) * (r + 2 ^ k) →
    isqrt m k r * isqrt m k r ≤ m ∧ m < (isqrt m k r + 1) * (isqrt m k r + 1)
  | 0, _, hlow, hhigh => ⟨hlow, hhigh⟩
  | k + 1, r, hlow, hhigh => by
    rw [isqrt]
    split
    · rename_i h
      refine isqrt_spec m k _ h ?_
      rwa [add_assoc, ← two_mul, ← pow_succ']
    · rename_i h
      exact isqrt_spec m k _ hlow (not_le.1 h)

theorem natSqrt_spec (m : Nat) : natSqrt m * natSqrt m ≤ m ∧ m < (natSqrt m + 1) * (natSqrt m + 1) := by
  refine isqrt_spec m _ 0 (Nat.zero_le _) ?_
  calc m < 2 ^ (m.log2 + 1) := Nat.lt_log2_self
    _ ≤ 2 ^ ((m.log2 / 2 + 1) + (m.log2 / 2 + 1)) := Nat.pow_le_pow_right two_pos (by omega)
    _ = (0 + 2 ^ (m.log2 / 2 + 1)) * (0 + 2 ^ (m.log2 / 2 + 1)) := by rw [pow_add, zero_add]

theorem le_natSqrt {a m : Nat} (h : a * a ≤ m) : a ≤ natSqrt m := by
  by_contra hlt
  have hle : natSqrt m + 1 ≤ a := not_le.1 hlt
  exact absurd ((natSqrt_spec m).2.trans_le ((Nat.mul_le_mul hle hle).trans h)) (lt_irrefl m)

/-! ### Square roots (R690, R692) -/

/-- Half a unit below and above the result, in units of `2 ^ e`. -/
theorem Fmt.JamNearest.bounds {f : Fmt} {r : Fp} {det : Det} {neg : Bool} {m : Nat} {e : Int} {lost : Bool} {k d : Nat}
    (h : f.JamNearest r det neg m e lost k d) :
    0 ≤ (2 * k - 1 : Rat) * 2 ^ d ∧ (2 * k - 1 : Rat) * 2 ^ d ≤ m ∧ (m : Rat) + lost.toNat ≤ (2 * k + 1) * 2 ^ d := by
  have hk : 1 ≤ k := le_trans (Nat.one_le_two_pow) h.normal.1
  have hkRat : (1 : Rat) ≤ k := by exact_mod_cast hk
  have hle : (k * 2 ^ (d + 1) : Rat) ≤ m + 2 ^ d := by exact_mod_cast h.le_add
  have hge : (m : Rat) + lost.toNat ≤ k * 2 ^ (d + 1) + 2 ^ d := by exact_mod_cast h.add_le
  rw [pow_succ] at hle hge
  exact ⟨mul_nonneg (by linarith) (by positivity), by linarith, by linarith⟩

/-- A square at the exponent of the result, in the units of what was rounded. -/
theorem sq_mul_zpow (c : Rat) (e : Int) (d : Nat) :
    c ^ 2 * (2 : Rat) ^ (2 * (e + 1 + d)) = 4 * (c * 2 ^ d) ^ 2 * (2 : Rat) ^ (2 * e) := by
  have hpow : (2 : Rat) ^ (2 * (e + 1 + d)) = 4 * (2 ^ d) ^ 2 * (2 : Rat) ^ (2 * e) := by
    rw [show 2 * (e + 1 + d) = ((2 + d * 2 : Nat) : Int) + 2 * e by push_cast; ring, zpow_add₀ two_ne_zero, zpow_natCast,
      pow_add, pow_mul]
    norm_num
  rw [hpow]
  ring

/-- The bits of a square root that are found are nearest to the root: of `q` over `a`, where `q` lies between the square of
what was found and that of the next number. -/
theorem Fmt.JamNearest.root_bounds {f : Fmt} {r : Fp} {det : Det} {m : Nat} {e : Int} {lost : Bool} {k d : Nat}
    (h : f.JamNearest r det false m e lost k d) {q a : Rat} (ha : 0 ≤ a) (hlow : (m : Rat) ^ 2 * a ≤ q)
    (hhigh : q ≤ (m + lost.toNat : Rat) ^ 2 * a) :
    (2 * k - 1 : Rat) ^ 2 * (2 : Rat) ^ (2 * (e + 1 + d)) * a ≤ 4 * (q * (2 : Rat) ^ (2 * e)) ∧
      4 * (q * (2 : Rat) ^ (2 * e)) ≤ (2 * k + 1 : Rat) ^ 2 * (2 : Rat) ^ (2 * (e + 1 + d)) * a := by
  obtain ⟨hpos, hle, hge⟩ := h.bounds
  have hunit : (0 : Rat) ≤ (2 : Rat) ^ (2 * e) := by positivity
  have hA : ((2 * k - 1 : Rat) * 2 ^ d) ^ 2 * a ≤ q :=
    le_trans (mul_le_mul_of_nonneg_right (pow_le_pow_left₀ hpos hle 2) ha) hlow
  have hB : q ≤ ((2 * k + 1 : Rat) * 2 ^ d) ^ 2 * a :=
    hhigh.trans (mul_le_mul_of_nonneg_right (pow_le_pow_left₀ (by positivity) hge 2) ha)
  rw [sq_mul_zpow, sq_mul_zpow]
  constructor
  · calc 4 * ((2 * k - 1 : Rat) * 2 ^ d) ^ 2 * (2 : Rat) ^ (2 * e) * a
        = 4 * (((2 * k - 1 : Rat) * 2 ^ d) ^ 2 * a * (2 : Rat) ^ (2 * e)) := by ring
      _ ≤ 4 * (q * (2 : Rat) ^ (2 * e)) := by gcongr
  · calc 4 * (q * (2 : Rat) ^ (2 * e))
        ≤ 4 * (((2 * k + 1 : Rat) * 2 ^ d) ^ 2 * a * (2 : Rat) ^ (2 * e)) := by gcongr
      _ = 4 * ((2 * k + 1 : Rat) * 2 ^ d) ^ 2 * (2 : Rat) ^ (2 * e) * a := by ring

/-- What is not exact lies below the square of the next number. -/
theorem le_square_add_lost {m a q : Nat} {lost : Bool} (h : q < (m + 1) * (m + 1) * a) (hlost : lost = false → m * m * a = q) :
    (q : Rat) ≤ (m + lost.toNat : Rat) ^ 2 * a := by
  rw [sq]
  cases lost with
  | false => exact_mod_cast (hlost rfl).ge
  | true => exact_mod_cast h.le

/-- The square root of a positive number (R692). -/
theorem Fmt.nearest_sqrt {f : Fmt} (hf : f.Regular) (env : FpEnv) {m : Nat} (e : Int) (hm : 2 ^ f.frac ≤ m)
    (hrange : (f.round env ((Fp.fin false m e).sqrt f).1).2 &&& (Det.o ||| Det.u) = 0) :
    ∃ k j, (f.round env ((Fp.fin false m e).sqrt f).1).1 = .fin false k j ∧ f.Normal k j ∧
      (2 * k - 1 : Rat) ^ 2 * (2 : Rat) ^ (2 * j) ≤ 4 * (Fp.fin false m e).toRat ∧
      4 * (Fp.fin false m e).toRat ≤ (2 * k + 1 : Rat) ^ 2 * (2 : Rat) ^ (2 * j) ∧
      (f.round env ((Fp.fin false m e).sqrt f).1).2 =
        if (k : Rat) ^ 2 * (2 : Rat) ^ (2 * j) = (Fp.fin false m e).toRat then 0 else Det.i := by
  obtain ⟨t, ht⟩ : ∃ t : Nat, t = 2 * f.frac + 8 + (e % 2).toNat := ⟨_, rfl⟩
  have hsqrt : ((Fp.fin false m e).sqrt f).1 =
      jam false (natSqrt (m <<< t)) ((e - t) / 2) (natSqrt (m <<< t) * natSqrt (m <<< t) != m <<< t) := by
    rw [ht]
    rfl
  have hx : (Fp.fin false m e).toRat = (m <<< t : Nat) * (2 : Rat) ^ (2 * ((e - t) / 2)) := by
    have heven : 2 * ((e - t) / 2) = e - t := by omega
    rw [Fp.toRat_fin, heven, Nat.shiftLeft_eq, zpow_sub₀ two_ne_zero, zpow_natCast]
    push_cast
    field_simp
  rw [hsqrt] at hrange ⊢
  have hlarge : 2 ^ (f.frac + 1) ≤ natSqrt (m <<< t) := by
    refine le_natSqrt ?_
    rw [Nat.shiftLeft_eq, ← pow_add]
    calc 2 ^ (f.frac + 1 + (f.frac + 1)) ≤ 2 ^ (f.frac + t) := Nat.pow_le_pow_right two_pos (by omega)
      _ ≤ m * 2 ^ t := by rw [pow_add]; exact Nat.mul_le_mul_right _ hm
  obtain ⟨hlow, hhigh⟩ := natSqrt_spec (m <<< t)
  rw [hx]
  generalize m <<< t = a at *
  generalize natSqrt a = s at *
  generalize (e - t) / 2 = j at *
  obtain ⟨k, d, hnear⟩ := (Fmt.nearest_of_inRange_jam hf env false (lt_of_lt_of_le (by positivity) hlarge).ne' _ _
    hrange).jamNearest hlarge
  have hlost : (s * s != a) = false → s * s * 1 = a := fun h => by rw [mul_one]; exact bne_eq_false_iff_eq.1 h
  obtain ⟨hdown, hup⟩ := hnear.root_bounds (q := a) (a := 1) zero_le_one
    (by rw [mul_one, sq]; exact_mod_cast hlow)
    (by simpa using le_square_add_lost (by rw [mul_one]; exact hhigh) hlost)
  rw [mul_one] at hdown hup
  refine ⟨k, _, hnear.eq, hnear.normal, hdown, hup, hnear.det_eq.trans (if_congr ?_ rfl rfl)⟩
  have hscale : (k : Rat) ^ 2 * (2 : Rat) ^ (2 * (j + 1 + d)) = ((k * 2 ^ (d + 1) : Nat) : Rat) ^ 2 * (2 : Rat) ^ (2 * j) := by
    rw [sq_mul_zpow]
    push_cast
    ring
  have hcast : ((k * 2 ^ (d + 1) : Nat) : Rat) ^ 2 = a ↔ k * 2 ^ (d + 1) * (k * 2 ^ (d + 1)) = a := by
    rw [sq]
    exact_mod_cast Iff.rfl
  rw [hscale, mul_left_inj' (by positivity), hcast]
  refine ⟨fun ⟨hexact, heq⟩ => heq ▸ bne_eq_false_iff_eq.1 hexact, fun hsquare => ?_⟩
  have hle : s ≤ k * 2 ^ (d + 1) := Nat.mul_self_le_mul_self_iff.1 (hsquare ▸ hlow)
  have hge : k * 2 ^ (d + 1) < s + 1 := Nat.mul_self_lt_mul_self_iff.1 (hsquare ▸ hhigh)
  have heq : k * 2 ^ (d + 1) = s := by omega
  exact ⟨bne_eq_false_iff_eq.2 (heq ▸ hsquare), heq⟩

/-- The reciprocal of the square root of a positive number (R690). -/
theorem Fmt.nearest_rsqrt {f : Fmt} (hf : f.Regular) (env : FpEnv) {m : Nat} (e : Int) (hm : 2 ^ f.frac ≤ m)
    (hm' : m < 2 ^ (f.frac + 1))
    (hrange : (f.round env ((Fp.fin false m e).rsqrt f).1).2 &&& (Det.o ||| Det.u) = 0) :
    ∃ k j, (f.round env ((Fp.fin false m e).rsqrt f).1).1 = .fin false k j ∧ f.Normal k j ∧
      (2 * k - 1 : Rat) ^ 2 * (2 : Rat) ^ (2 * j) * (Fp.fin false m e).toRat ≤ 4 ∧
      4 ≤ (2 * k + 1 : Rat) ^ 2 * (2 : Rat) ^ (2 * j) * (Fp.fin false m e).toRat := by
  obtain ⟨K, hK⟩ : ∃ K : Nat, K = 2 * f.frac + 6 := ⟨_, rfl⟩
  obtain ⟨a, ha⟩ : ∃ a, a = m <<< (e % 2).toNat := ⟨_, rfl⟩
  obtain ⟨y, hy⟩ : ∃ y, y = natSqrt (2 ^ (2 * K) / a) := ⟨_, rfl⟩
  have hrsqrt : ((Fp.fin false m e).rsqrt f).1 = jam false y (-(e / 2) - K) (y * y * a != 2 ^ (2 * K)) := by
    rw [hy, ha, hK]
    rfl
  have hx : (Fp.fin false m e).toRat = a * (2 : Rat) ^ (2 * (e / 2)) := by
    have hexp : (2 : Rat) ^ e = (2 : Rat) ^ (e % 2).toNat * (2 : Rat) ^ (2 * (e / 2)) := by
      rw [← zpow_natCast, ← zpow_add₀ two_ne_zero]
      congr 1
      omega
    rw [Fp.toRat_fin, ha, Nat.shiftLeft_eq, hexp]
    push_cast
    exact (mul_assoc _ _ _).symm
  have hpos : 0 < a := by
    rw [ha, Nat.shiftLeft_eq]
    have : 0 < 2 ^ f.frac := by positivity
    exact Nat.mul_pos (by omega) (by positivity)
  have hsmall : a ≤ 2 ^ (f.frac + 2) := by
    rw [ha, Nat.shiftLeft_eq]
    calc m * 2 ^ (e % 2).toNat ≤ 2 ^ (f.frac + 1) * 2 ^ 1 :=
          Nat.mul_le_mul hm'.le (Nat.pow_le_pow_right two_pos (by omega))
      _ = 2 ^ (f.frac + 2) := by rw [← pow_add]
  have hlarge : 2 ^ (f.frac + 1) ≤ y := by
    rw [hy]
    refine le_natSqrt ?_
    rw [Nat.le_div_iff_mul_le hpos, ← pow_add]
    calc 2 ^ (f.frac + 1 + (f.frac + 1)) * a ≤ 2 ^ (f.frac + 1 + (f.frac + 1)) * 2 ^ (f.frac + 2) := Nat.mul_le_mul_left _ hsmall
      _ ≤ 2 ^ (2 * K) := by rw [← pow_add]; exact Nat.pow_le_pow_right two_pos (by omega)
  obtain ⟨hlow, hhigh⟩ := natSqrt_spec (2 ^ (2 * K) / a)
  rw [← hy] at hlow hhigh
  rw [Nat.le_div_iff_mul_le hpos] at hlow
  rw [Nat.div_lt_iff_lt_mul hpos] at hhigh
  rw [hrsqrt] at hrange ⊢
  obtain ⟨k, d, hnear⟩ := (Fmt.nearest_of_inRange_jam hf env false (lt_of_lt_of_le (by positivity) hlarge).ne' _ _
    hrange).jamNearest hlarge
  obtain ⟨hdown, hup⟩ := hnear.root_bounds (q := (2 ^ (2 * K) : Nat)) (a := a) (Nat.cast_nonneg a)
    (by rw [sq]; exact_mod_cast hlow) (le_square_add_lost hhigh bne_eq_false_iff_eq.1)
  have hunit : ((2 ^ (2 * K) : Nat) : Rat) * (2 : Rat) ^ (2 * (-(e / 2) - K)) * (2 : Rat) ^ (2 * (e / 2)) = 1 := by
    rw [Nat.cast_pow, Nat.cast_ofNat, ← zpow_natCast, ← zpow_add₀ two_ne_zero, ← zpow_add₀ two_ne_zero, ← zpow_zero (2 : Rat)]
    congr 1
    push_cast
    ring
  have hscale : (0 : Rat) < (2 : Rat) ^ (2 * (e / 2)) := by positivity
  refine ⟨k, _, hnear.eq, hnear.normal, ?_, ?_⟩
  · calc _ = (2 * k - 1 : Rat) ^ 2 * (2 : Rat) ^ (2 * (-(e / 2) - K + 1 + d)) * a * (2 : Rat) ^ (2 * (e / 2)) := by
          rw [hx, mul_assoc _ (a : Rat)]
      _ ≤ 4 * (((2 ^ (2 * K) : Nat) : Rat) * (2 : Rat) ^ (2 * (-(e / 2) - K))) * (2 : Rat) ^ (2 * (e / 2)) := by gcongr
      _ = 4 := by rw [mul_assoc, hunit, mul_one]
  · calc (4 : Rat) = 4 * (((2 ^ (2 * K) : Nat) : Rat) * (2 : Rat) ^ (2 * (-(e / 2) - K))) * (2 : Rat) ^ (2 * (e / 2)) := by
          rw [mul_assoc, hunit, mul_one]
      _ ≤ (2 * k + 1 : Rat) ^ 2 * (2 : Rat) ^ (2 * (-(e / 2) - K + 1 + d)) * a * (2 : Rat) ^ (2 * (e / 2)) := by gcongr
      _ = _ := by rw [hx, mul_assoc _ (a : Rat)]

/-! ### Fused operations (R667) -/

/-- The rounded product overflows in a product that checks it (R667, log entry 24). -/
def FpEnv.ProductOverflows (env : FpEnv) (det : Det) : Prop := env.cfg.fmaProductOverflowCheck = true ∧ det &&& Det.o ≠ 0

section
variable {f : Fmt} {env : FpEnv} {p : Fp × Det} (hp : p.2 = 0)
include hp

/-- Where the product does not overflow a fused operation is the sum. -/
theorem Fp.fused_of_not_overflows (h : ¬env.ProductOverflows (f.round env p.1).2) (c : Fp) :
    Fp.fused f env p c = p.1.add c := by
  have hbool : (env.cfg.fmaProductOverflowCheck && (f.round env p.1).2 &&& Det.o != 0) = false := by
    rw [Bool.eq_false_iff]
    simpa [FpEnv.ProductOverflows] using h
  simp only [Fp.fused, hp, hbool]
  split
  · rename_i hne
    exact absurd hne (by decide)
  · split <;> rfl

/-- Where it overflows with an infinite addend. -/
theorem Fp.fused_inf_of_overflows (h : env.ProductOverflows (f.round env p.1).2) {s : Bool}
    (hs : (f.round env p.1).1 = .inf s) (t : Bool) :
    Fp.fused f env p (.inf t) = if s = t then (.inf t, (f.round env p.1).2) else (.nan true, Det.v) := by
  obtain ⟨hcheck, hover⟩ := h
  have hover' : ¬(f.round env p.1).2 &&& Det.o = 0#6 := hover
  simp [Fp.fused, hp, hs, hcheck, hover']

/-- Where it overflows with a number as addend. -/
theorem Fp.fused_number_of_overflows (h : env.ProductOverflows (f.round env p.1).2) {s : Bool}
    (hs : (f.round env p.1).1 = .inf s) {c : Fp} (hc : c.Number) :
    Fp.fused f env p c = (.inf s, (f.round env p.1).2) := by
  obtain ⟨hcheck, hover⟩ := h
  have hover' : ¬(f.round env p.1).2 &&& Det.o = 0#6 := hover
  cases c with
  | nan | inf => exact hc.elim
  | zero | fin => simp [Fp.fused, hp, hs, hcheck, hover']

end

/-- A product that overflows when it is rounded becomes an infinity. -/
theorem Fmt.round_fst_of_overflow {f : Fmt} (hf : f.Regular) (env : FpEnv) (neg : Bool) {m : Nat} (hm : m ≠ 0) (e : Int)
    (h : (f.round env (.fin neg m e)).2 &&& Det.o ≠ 0) : (f.round env (.fin neg m e)).1 = .inf neg := by
  rcases Fmt.round_cases hf env neg hm e with ⟨-, -, -, -, hdet, -⟩ | ⟨-, -, hr, -⟩ | ⟨-, -, -, hdet, -⟩
  · exact absurd hdet h
  · exact hr
  · exact absurd hdet h

/-- Settles O58. -/
theorem fpQuotientsAndRoots : Obligations.FpQuotientsAndRoots := by
  intro f env n n' m m' e e' c hformat hlow hhigh hlow' hhigh' hc x y inRange quotient reciprocal root rootReciprocal product
    fused overflows
  have hf := Fmt.regular_of_eq hformat
  have hpos : 0 < 2 ^ f.frac := by positivity
  have hm : m ≠ 0 := by omega
  have hm' : m' ≠ 0 := by omega
  refine ⟨⟨rfl, fun h => ?quotient⟩, ⟨rfl, fun h => ?reciprocal⟩, fun hn => ?roots, fun h => ?fused, fun h => ?overflow⟩
  case quotient =>
    have hnear := Fmt.nearest_divFin hf env (n ^^ n') e e' hm hm' hhigh' h
    have hvalue : x.toRat / y.toRat =
        (if n ^^ n' then -1 else 1) * (m * (2 : Rat) ^ e / (m' * (2 : Rat) ^ e')) := by
      cases n <;> cases n' <;> simp [x, y, Fp.toRat_fin, neg_div, div_neg]
    rw [hvalue]
    exact hnear
  case reciprocal =>
    have hnear := Fmt.nearest_divFin hf env n' 0 e' one_ne_zero hm' hhigh' h
    have hvalue : 1 / y.toRat = (if n' then -1 else 1) * ((1 : Nat) * (2 : Rat) ^ (0 : Int) / (m' * (2 : Rat) ^ e')) := by
      cases n' <;> simp [y, Fp.toRat_fin, div_neg]
    rw [hvalue]
    exact hnear
  case roots =>
    subst hn
    exact ⟨rfl, rfl, fun h => Fmt.nearest_sqrt hf env e hlow h, fun h => Fmt.nearest_rsqrt hf env e hlow hhigh h⟩
  case fused =>
    have hmul := Fp.mul_exact (x := x) (y := y) hm hm'
    have hadd := Fp.add_exact hmul.1 hc
    have hfused : fused = (x.mul y).1.add c := Fp.fused_of_not_overflows rfl h c
    rw [hfused, ← hmul.2.1]
    exact hadd
  case overflow =>
    have hinf : product.1 = .inf (n ^^ n') := Fmt.round_fst_of_overflow hf env (n ^^ n') (Nat.mul_ne_zero hm hm') (e + e') h.2
    exact Fp.fused_number_of_overflows rfl h hinf hc

end Sys2Proof.Machine
end

section
/-! PROOFS. Special operands: what a pattern of each kind is as an operand, what is delivered for each kind of result, and the
tables of sums, products, quotients and fused operations (O56). -/
namespace Sys2Proof.Machine

/-! ### Data (R650) -/

/-- The pattern of a normalized number. -/
def Fmt.numberOf (f : Fmt) (neg : Bool) (m : Nat) (e : Int) : DWord :=
  f.bits neg (e + f.frac + f.bias).toNat (m - 2 ^ f.frac)

/-- A pattern with its kind and the operand that it is. -/
inductive Fmt.Datum (f : Fmt) : DWord → FpKind → Operand → Prop where
  | nan (w : DWord) (quiet : Bool) : f.Datum w (.nan quiet) ⟨.nan quiet, false⟩
  | inf (neg : Bool) : f.Datum (f.infOf neg) (.inf neg) ⟨.inf neg, false⟩
  | zero (neg : Bool) : f.Datum (f.zeroOf neg) (.zero neg) ⟨.zero neg, false⟩
  | denormal (neg : Bool) (m : Nat) : f.Fields 0 m → m ≠ 0 → f.Datum (f.bits neg 0 m) (.denormal neg) ⟨.zero neg, true⟩
  | normal (neg : Bool) (m : Nat) (e : Int) : f.Normal m e →
      f.Datum (f.numberOf neg m e) (.normal neg) ⟨.fin neg m e, false⟩

/-- The quiet bit of a NaN is the top bit of its fraction. -/
theorem Fmt.testBit_quiet {f : Fmt} (hf : f.Regular) {m : Nat} (hm : m < 2 ^ f.frac) :
    m.testBit (f.frac - 1) = decide (2 ^ (f.frac - 1) ≤ m) := by
  have hfrac := hf.frac_pos
  have hpow : 2 ^ f.frac = 2 * 2 ^ (f.frac - 1) := by rw [← pow_succ', Nat.sub_add_cancel hfrac]
  have hlt : m / 2 ^ (f.frac - 1) < 2 := (Nat.div_lt_iff_lt_mul (by positivity)).2 (hpow ▸ hm)
  have hle : 2 ^ (f.frac - 1) ≤ m ↔ 1 ≤ m / 2 ^ (f.frac - 1) := by
    rw [Nat.le_div_iff_mul_le (by positivity), one_mul]
  rw [Nat.testBit_eq_decide_div_mod_eq, decide_eq_decide, hle]
  generalize m / 2 ^ (f.frac - 1) = quiet at *
  omega

/-- An operand is a NaN exactly if its pattern is one. -/
theorem Fmt.unpack_nan_iff {f : Fmt} (hf : f.Regular) (w : DWord) (quiet : Bool) :
    (f.unpack w).val = .nan quiet ↔ f.kind w = .nan quiet := by
  have hquiet := Fmt.testBit_quiet hf (Nat.mod_lt w.toNat (show 0 < 2 ^ f.frac by positivity))
  simp only [Fmt.unpack, Fmt.kind, hquiet]
  split
  · split <;> simp
  · split
    · split <;> simp
    · simp

theorem Fmt.unpack_numberOf {f : Fmt} (hf : f.Regular) (neg : Bool) {m : Nat} {e : Int} (h : f.Normal m e) :
    f.unpack (f.numberOf neg m e) = ⟨.fin neg m e, false⟩ :=
  Fmt.unpack_pack_fin hf Config.default neg h

theorem Fmt.Normal.ne_zero {f : Fmt} {m : Nat} {e : Int} (h : f.Normal m e) : m ≠ 0 :=
  (lt_of_lt_of_le (by positivity) h.1).ne'

/-- Every pattern of the width of a format is a datum of it. -/
theorem Fmt.Fits.datum {f : Fmt} {w : DWord} (hw : f.Fits w) (hf : f.Regular) : f.Datum w (f.kind w) (f.unpack w) := by
  obtain ⟨neg, e, m, h, rfl⟩ := hw.exists_fields hf
  rw [Fmt.kind_bits h neg hf, Fmt.unpack_bits h neg hf, Fmt.testBit_quiet hf h.fraction_lt]
  have hexp := hf.two_pow_expBits
  have hbias := hf.bias_pos
  by_cases hinf : e = 2 ^ f.expBits - 1
  · rw [if_pos hinf, if_pos hinf]
    by_cases hm : m = 0
    · rw [if_pos hm, if_pos hm, hinf, hm, ← Fmt.infOf_eq_bits]
      exact .inf neg
    · rw [if_neg hm, if_neg hm]
      exact .nan _ _
  rw [if_neg hinf, if_neg hinf]
  by_cases hzero : e = 0
  · subst hzero
    rw [if_pos rfl, if_pos rfl]
    by_cases hm : m = 0
    · rw [if_pos hm, hm, ← Fmt.zeroOf_eq_bits]
      exact .zero neg
    · rw [if_neg hm, bne_iff_ne.2 hm]
      exact .denormal neg m h hm
  · rw [if_neg hzero, if_neg hzero]
    have hfrac : 2 ^ (f.frac + 1) = 2 * 2 ^ f.frac := pow_succ' 2 _
    have he := h.exponent_lt
    have hm := h.fraction_lt
    have hnormal : f.Normal (2 ^ f.frac + m) ((e : Int) - f.bias - f.frac) := by
      unfold Fmt.Normal Fmt.emin
      omega
    have hpack : f.numberOf neg (2 ^ f.frac + m) ((e : Int) - f.bias - f.frac) = f.bits neg e m := by
      rw [Fmt.numberOf]
      congr 1 <;> omega
    rw [← hpack]
    exact .normal neg _ _ hnormal

/-- The kind of a datum with its sign inverted; a NaN stays. -/
def FpKind.flip : FpKind → FpKind
  | .nan q => .nan q
  | .inf s => .inf !s
  | .zero s => .zero !s
  | .denormal s => .denormal !s
  | .normal s => .normal !s

theorem FpKind.isNan_flip (k : FpKind) : k.flip.isNan = k.isNan := by cases k <;> rfl

theorem FpKind.isDenormal_flip (k : FpKind) : k.flip.isDenormal = k.isDenormal := by cases k <;> rfl

/-- Where two data are no zeros and the third is an infinity, none is denormalized. -/
theorem FpKind.not_any_isDenormal {A B C : FpKind} (h : (B.isZero || A.isZero) = false) (hC : C.isInf = true) :
    [A, B, C].any FpKind.isDenormal = false := by
  have hzero (k : FpKind) (hk : k.isZero = false) : k.isDenormal = false := by
    cases k with
    | denormal => exact Bool.noConfusion hk
    | _ => rfl
  obtain ⟨hB, hA⟩ := Bool.or_eq_false_iff.1 h
  have hC' : C.isDenormal = false := by
    cases C with
    | inf => rfl
    | _ => exact Bool.noConfusion hC
  simp [hzero A hA, hzero B hB, hC']

/-- Inverting the sign bit inverts the sign of the operand. -/
theorem Fmt.Datum.flip {f : Fmt} (hf : f.Regular) {w : DWord} {k : FpKind} {x : Operand} (h : f.Datum w k x) :
    f.Datum (w ^^^ f.signBit) k.flip ⟨x.val.neg, x.flushed⟩ := by
  cases h with
  | nan quiet => exact .nan _ _
  | inf s =>
    rw [Fmt.infOf_eq_bits, Fmt.bits_xor_signBit f.fields_inf, ← Fmt.infOf_eq_bits]
    exact .inf !s
  | zero s =>
    rw [Fmt.zeroOf_eq_bits, Fmt.bits_xor_signBit f.fields_zero, ← Fmt.zeroOf_eq_bits]
    exact .zero !s
  | denormal s m hm hm0 =>
    rw [Fmt.bits_xor_signBit hm]
    exact .denormal (!s) m hm hm0
  | normal s m e hnormal =>
    rw [Fmt.numberOf, Fmt.bits_xor_signBit (hnormal.fields hf).1]
    exact .normal (!s) m e hnormal

/-! ### What is delivered -/

/-- What is detected, with I added if an operand was flushed, unless V or Z is detected (R657). -/
def flushDet (flushed : Bool) (d : Det) : Det := if flushed && d &&& (Det.v ||| Det.z) == 0 then d ||| Det.i else d

theorem flushDet_zero : ∀ fl, flushDet fl (0#6 ||| 0) = lostDet fl := by decide
theorem flushDet_v : ∀ fl, flushDet fl (Det.v ||| 0) = Det.v := by decide
theorem flushDet_z : ∀ fl, flushDet fl (Det.z ||| 0) = Det.z := by decide
theorem flushDet_false (d : Det) : flushDet false d = d := rfl

/-- A result rounded and packed, where no operand is a NaN. -/
def Fmt.result (f : Fmt) (env : FpEnv) (flushed : Bool) (r : Fp × Det) : FpOut :=
  ⟨f.pack env.cfg (f.round env r.1).1, flushDet flushed (r.2 ||| (f.round env r.1).2), 0⟩

theorem Fmt.deliver_eq_result {f : Fmt} {env : FpEnv} {xs : List Operand} (h : ∀ x ∈ xs, x.val.isNan = false) (r : Fp × Det) :
    f.deliver env xs r = f.result env (xs.any (·.flushed)) r := by
  have hnan : xs.any (·.val.isNan) = false := List.any_eq_false.2 fun x hx => Bool.eq_false_iff.1 (h x hx)
  have hsnan : xs.any (·.val.isSnan) = false := List.any_eq_false.2 fun x hx hs => by
    have := h x hx
    cases hv : x.val <;> simp_all [Fp.isNan, Fp.isSnan]
  simp [Fmt.deliver, Fmt.result, nanFirst, flushInexact, flushDet, hnan, hsnan]

section
variable {f : Fmt} {env : FpEnv} (fl : Bool)

/-- An invalid operation gives the Q-NaN of the product with V. -/
@[simp] theorem Fmt.result_invalid : f.result env fl (.nan true, Det.v) = ⟨f.qnan env.cfg, Det.v, 0⟩ := by
  simp only [Fmt.result, Fmt.round, Fmt.pack, flushDet_v]

@[simp] theorem Fmt.result_inf (s : Bool) : f.result env fl (.inf s, 0#6) = ⟨f.infOf s, lostDet fl, 0⟩ := by
  simp only [Fmt.result, Fmt.round, Fmt.pack, flushDet_zero, Fmt.infOf_eq_bits]

@[simp] theorem Fmt.result_division_by_zero (s : Bool) : f.result env fl (.inf s, Det.z) = ⟨f.infOf s, Det.z, 0⟩ := by
  simp only [Fmt.result, Fmt.round, Fmt.pack, flushDet_z, Fmt.infOf_eq_bits]

@[simp] theorem Fmt.result_zero (s : Bool) : f.result env fl (.zero s, 0#6) = ⟨f.zeroOf s, lostDet fl, 0⟩ := by
  simp only [Fmt.result, Fmt.round, Fmt.pack, flushDet_zero, Fmt.zeroOf_eq_bits]

/-- A number of the format is its own rounding. -/
theorem Fmt.round_normal {m : Nat} {e : Int} (h : f.Normal m e) (s : Bool) :
    f.round env (.fin s m e) = (.fin s m e, 0) := by
  have hm := h.ne_zero
  obtain ⟨hlow, hhigh, hmin, hmax⟩ := h
  have hlog : m.log2 = f.frac := Nat.log2_eq_iff hm |>.2 ⟨hlow, hhigh⟩
  have hbits : f.roundBits m = (m, 0, false) := by
    rw [Fmt.roundBits_of_le hlog.le, hlog, Nat.sub_self, Nat.shiftLeft_zero]
  have hexp : f.roundExp m = 0 := by simp [Fmt.roundExp, hlog]
  rw [Fmt.round_fin, hbits, hexp, hlog, if_neg (by omega), if_neg (by omega), add_zero]
  rfl

theorem Fmt.result_normal {m : Nat} {e : Int} (h : f.Normal m e) (s : Bool) :
    f.result env fl (.fin s m e, 0#6) = ⟨f.numberOf s m e, lostDet fl, 0⟩ := by
  simp only [Fmt.result, Fmt.round_normal h, Fmt.pack, Fmt.numberOf, flushDet_zero]

end

/-! ### Inverting a result -/

theorem Fmt.round_neg (f : Fmt) (env : FpEnv) (x : Fp) : f.round env x.neg = ((f.round env x).1.neg, (f.round env x).2) := by
  cases x with
  | fin s m e =>
    simp only [Fp.neg, Fmt.round_fin]
    split
    · rfl
    · split <;> rfl
  | _ => rfl

/-- The fields of a rounded number, of whatever number it is. -/
theorem Fmt.fields_round {f : Fmt} (hf : f.Regular) (env : FpEnv) {x : Fp} {s : Bool} {k : Nat} {j : Int}
    (h : (f.round env x).1 = .fin s k j) : f.Fields (j + f.frac + f.bias).toNat (k - 2 ^ f.frac) := by
  cases x with
  | nan | inf | zero => exact Fp.noConfusion h
  | fin neg m e =>
    by_cases hm : m = 0
    · subst hm
      have hbits : f.roundBits 0 = (0, 0, false) := by
        rw [Fmt.roundBits_of_le (by simp), Nat.zero_shiftLeft]
      have hexp : f.roundExp 0 = -(f.frac : Int) := by simp [Fmt.roundExp]
      have hwidth := hf.two_pow_expBits
      have hpos : 0 < 2 ^ f.frac := by positivity
      rw [Fmt.round_fin, hbits, hexp] at h
      unfold Fmt.emin at h
      simp only [Nat.log2_zero] at h
      split at h
      · exact Fp.noConfusion h
      · split at h
        · exact Fp.noConfusion h
        · obtain ⟨-, rfl, rfl⟩ := Fp.fin.inj h
          exact ⟨by omega, by omega⟩
    · rcases Fmt.round_cases hf env neg hm e with ⟨-, -, hr, -⟩ | ⟨-, -, hr, -⟩ | ⟨-, -, -, -, hnear⟩
      · exact Fp.noConfusion (hr.symm.trans h)
      · exact Fp.noConfusion (hr.symm.trans h)
      · obtain ⟨k', j', hr, hnormal, -⟩ := hnear
        obtain ⟨-, rfl, rfl⟩ := Fp.fin.inj (hr.symm.trans h)
        exact (hnormal.fields hf).1

theorem Fmt.isNan_round (f : Fmt) (env : FpEnv) (x : Fp) : (f.round env x).1.isNan = x.isNan := by
  cases x with
  | fin neg m e =>
    rw [Fmt.round_fin]
    split
    · rfl
    · split <;> rfl
  | _ => rfl

/-- A result of the other sign has the other sign bit. -/
theorem Fmt.result_neg {f : Fmt} (hf : f.Regular) (env : FpEnv) (fl : Bool) {x : Fp} (hx : x.isNan = false) (d : Det) :
    f.result env fl (x.neg, d) =
      ⟨(f.result env fl (x, d)).value ^^^ f.signBit, (f.result env fl (x, d)).det, 0⟩ := by
  have hpack : f.pack env.cfg (f.round env x).1.neg = f.pack env.cfg (f.round env x).1 ^^^ f.signBit := by
    have hnan := f.isNan_round env x
    rw [hx] at hnan
    cases hy : (f.round env x).1 with
    | nan q => exact Bool.noConfusion (hnan.symm.trans (congrArg Fp.isNan hy))
    | inf s => exact (Fmt.bits_xor_signBit f.fields_inf s).symm
    | zero s => exact (Fmt.bits_xor_signBit f.fields_zero s).symm
    | fin s k j => exact (Fmt.bits_xor_signBit (Fmt.fields_round hf env hy) s).symm
  simp only [Fmt.result, Fmt.round_neg, hpack]

/-! ### Tables (R667, R672, R674, R682) -/

/-- The table of a sum of `b` and `a`, of kinds `B` and `A`. -/
def Fmt.SumTable (f : Fmt) (invalid : FpOut) (plain : DWord → FpOut) (A B : FpKind) (a b : DWord) (o : FpOut) : Prop :=
  if B.isInf && A.isInf && B.negative != A.negative then o = invalid
  else if B.isInf then o = plain (f.infOf B.negative)
  else if A.isInf then o = plain (f.infOf A.negative)
  else if B.isZero && A.isZero then o = plain (f.zeroOf (B.negative && A.negative))
  else if A.isZero then o = plain b
  else if B.isZero then o = plain a
  else a = b ^^^ f.signBit → o = plain (f.zeroOf false)

/-- What a product is, by the kinds of its operands and its sign. -/
inductive FpKind.Product (A B : FpKind) (neg : Bool) : Fp × Det → Prop where
  | invalid : (B.isInf && A.isZero || B.isZero && A.isInf) = true → Product A B neg (.nan true, Det.v)
  | inf : (B.isInf && A.isZero || B.isZero && A.isInf) = false → (B.isInf || A.isInf) = true →
      Product A B neg (.inf neg, 0#6)
  | zero : (B.isInf && A.isZero || B.isZero && A.isInf) = false → (B.isInf || A.isInf) = false →
      (B.isZero || A.isZero) = true → Product A B neg (.zero neg, 0#6)
  | number (m : Nat) (e : Int) : (B.isInf && A.isZero || B.isZero && A.isInf) = false → (B.isInf || A.isInf) = false →
      (B.isZero || A.isZero) = false → m ≠ 0 → Product A B neg (.fin neg m e, 0#6)

/-- The table of a product. -/
def Fmt.ProductTable (f : Fmt) (invalid : FpOut) (plain : DWord → FpOut) (A B : FpKind) (o : FpOut) : Prop :=
  if B.isInf && A.isZero || B.isZero && A.isInf then o = invalid
  else if B.isInf || A.isInf then o = plain (f.infOf (A.negative ^^ B.negative))
  else if B.isZero || A.isZero then o = plain (f.zeroOf (A.negative ^^ B.negative))
  else True

/-- The table of the quotient of a datum of kind `B` by one of kind `A`. -/
def Fmt.QuotientTable (f : Fmt) (invalid : FpOut) (plain : DWord → FpOut) (A B : FpKind) (o : FpOut) : Prop :=
  if B.isInf && A.isInf || B.isZero && A.isZero then o = invalid
  else if B.isInf then o = plain (f.infOf (A.negative ^^ B.negative))
  else if A.isZero then o = ⟨f.infOf (A.negative ^^ B.negative), Det.z, 0⟩
  else if A.isInf || B.isZero then o = plain (f.zeroOf (A.negative ^^ B.negative))
  else True

/-- The table of a fused operation with the addend `c` of kind `C`, where rounding the product detects `det`. -/
def Fmt.FusedTable (f : Fmt) (env : FpEnv) (invalid : FpOut) (plain : DWord → FpOut) (A B C : FpKind) (c : DWord) (det : Det)
    (o : FpOut) : Prop :=
  if B.isInf && A.isZero || B.isZero && A.isInf then o = invalid
  else if B.isInf || A.isInf then
    o = if C.isInf && C.negative != (A.negative ^^ B.negative) then invalid else plain (f.infOf (A.negative ^^ B.negative))
  else if C.isInf then
    (env.ProductOverflows det →
        o = if C.negative != (A.negative ^^ B.negative) then invalid else ⟨f.infOf (A.negative ^^ B.negative), det, 0⟩) ∧
      (¬env.ProductOverflows det → o = plain (f.infOf C.negative))
  else if B.isZero || A.isZero then
    o = plain (if C.isZero then f.zeroOf ((A.negative ^^ B.negative) && C.negative) else c)
  else True

/-- Numbers of one magnitude and of different signs cancel to +0. -/
theorem Fp.add_cancel (s : Bool) (m : Nat) (e : Int) : (Fp.fin s m e).add (.fin (!s) m e) = (.zero false, 0) := by
  cases s <;> simp [Fp.add, Fp.scaled]

section
variable {f : Fmt} (env : FpEnv) (fl : Bool) {a b : DWord} {A B : FpKind} {x y : Operand}
  (ha : f.Datum a A x) (hb : f.Datum b B y) (hA : A.isNan = false) (hB : B.isNan = false)
include ha hb hA hB

/-- Sums of special operands. -/
theorem Fmt.sumTable (hf : f.Regular) : f.SumTable ⟨f.qnan env.cfg, Det.v, 0⟩ (fun v => ⟨v, lostDet fl, 0⟩) A B a b
    (f.result env fl (y.val.add x.val)) := by
  cases hb with
  | nan => exact Bool.noConfusion hB
  | inf s =>
    cases ha with
    | nan => exact Bool.noConfusion hA
    | inf t => cases s <;> cases t <;> simp [Fmt.SumTable, FpKind.isInf, FpKind.negative, Fp.add]
    | zero | denormal | normal => simp [Fmt.SumTable, FpKind.isInf, FpKind.negative, Fp.add]
  | zero s | denormal s =>
    cases ha with
    | nan => exact Bool.noConfusion hA
    | inf t => simp [Fmt.SumTable, FpKind.isInf, FpKind.negative, Fp.add]
    | zero | denormal => simp [Fmt.SumTable, FpKind.isInf, FpKind.isZero, FpKind.negative, Fp.add]
    | normal t m e h => simp [Fmt.SumTable, FpKind.isInf, FpKind.isZero, Fp.add, Fmt.result_normal fl h]
  | normal s m e h =>
    cases ha with
    | nan => exact Bool.noConfusion hA
    | inf t => simp [Fmt.SumTable, FpKind.isInf, FpKind.negative, Fp.add]
    | zero | denormal => simp [Fmt.SumTable, FpKind.isInf, FpKind.isZero, Fp.add, Fmt.result_normal fl h]
    | normal t k j h' =>
      intro hcancel
      rw [Fmt.numberOf, Fmt.numberOf, Fmt.bits_xor_signBit (h.fields hf).1] at hcancel
      have hunpack := congrArg f.unpack hcancel
      rw [← Fmt.numberOf, ← Fmt.numberOf, Fmt.unpack_numberOf hf t h', Fmt.unpack_numberOf hf (!s) h] at hunpack
      obtain ⟨rfl, rfl, rfl⟩ := Fp.fin.inj (Operand.mk.inj hunpack).1
      rw [Fp.add_cancel]
      exact Fmt.result_zero fl false

/-- Products of special operands. -/
theorem Fmt.Datum.product : FpKind.Product A B (A.negative ^^ B.negative) (y.val.mul x.val) := by
  rw [Bool.xor_comm]
  cases hb with
  | nan => exact Bool.noConfusion hB
  | inf s =>
    cases ha with
    | nan => exact Bool.noConfusion hA
    | inf | normal => exact .inf rfl rfl
    | zero | denormal => exact .invalid rfl
  | zero s | denormal s =>
    cases ha with
    | nan => exact Bool.noConfusion hA
    | inf => exact .invalid rfl
    | zero | denormal | normal => exact .zero rfl rfl rfl
  | normal s m e h =>
    cases ha with
    | nan => exact Bool.noConfusion hA
    | inf => exact .inf rfl rfl
    | zero | denormal => exact .zero rfl rfl rfl
    | normal t k j h' => exact .number _ _ rfl rfl rfl (Nat.mul_ne_zero h.ne_zero h'.ne_zero)

theorem Fmt.productTable : f.ProductTable ⟨f.qnan env.cfg, Det.v, 0⟩ (fun v => ⟨v, lostDet fl, 0⟩) A B
    (f.result env fl (y.val.mul x.val)) := by
  have hp := Fmt.Datum.product ha hb hA hB
  generalize y.val.mul x.val = p at *
  unfold Fmt.ProductTable
  cases hp with
  | invalid h => rw [if_pos h, Fmt.result_invalid]
  | inf h h' => rw [h, if_neg Bool.false_ne_true, if_pos h', Fmt.result_inf]
  | zero h h' h'' => rw [h, if_neg Bool.false_ne_true, h', if_neg Bool.false_ne_true, if_pos h'', Fmt.result_zero]
  | number m e h h' h'' => simp only [h, h', h'']; trivial

/-- Quotients of special operands. -/
theorem Fmt.quotientTable : f.QuotientTable ⟨f.qnan env.cfg, Det.v, 0⟩ (fun v => ⟨v, lostDet fl, 0⟩) A B
    (f.result env fl (y.val.div f x.val)) := by
  cases hb with
  | nan => exact Bool.noConfusion hB
  | inf s =>
    cases ha with
    | nan => exact Bool.noConfusion hA
    | inf => simp [Fmt.QuotientTable, FpKind.isInf, Fp.div]
    | zero | denormal | normal =>
      simp [Fmt.QuotientTable, FpKind.isInf, FpKind.isZero, FpKind.negative, Fp.div, Bool.xor_comm]
  | zero s | denormal s =>
    cases ha with
    | nan => exact Bool.noConfusion hA
    | zero | denormal => simp [Fmt.QuotientTable, FpKind.isInf, FpKind.isZero, Fp.div]
    | inf | normal => simp [Fmt.QuotientTable, FpKind.isInf, FpKind.isZero, FpKind.negative, Fp.div, Bool.xor_comm]
  | normal s m e h =>
    cases ha with
    | nan => exact Bool.noConfusion hA
    | inf | zero | denormal => simp [Fmt.QuotientTable, FpKind.isInf, FpKind.isZero, FpKind.negative, Fp.div, Bool.xor_comm]
    | normal => trivial

/-- Fused operations of special operands: an overflowing product is the product of numbers, so that nothing was flushed. -/
theorem Fmt.fusedTable (hf : f.Regular) {c : DWord} {C : FpKind} {z : Operand} (hc : f.Datum c C z) (hC : C.isNan = false)
    (hfl : (B.isZero || A.isZero) = false → C.isInf = true → fl = false) :
    f.FusedTable env ⟨f.qnan env.cfg, Det.v, 0⟩ (fun v => ⟨v, lostDet fl, 0⟩) A B C c
      (f.round env (y.val.mul x.val).1).2 (f.result env fl (Fp.fused f env (y.val.mul x.val) z.val)) := by
  have hp := Fmt.Datum.product ha hb hA hB
  generalize y.val.mul x.val = p at *
  generalize hneg : (A.negative ^^ B.negative) = neg at *
  have hzero : ¬env.ProductOverflows 0 := fun h => h.2 (by decide)
  unfold Fmt.FusedTable
  rw [hneg]
  cases hp with
  | invalid h =>
    rw [if_pos h]
    exact Fmt.result_invalid fl
  | inf h h' =>
    rw [h, if_neg Bool.false_ne_true, if_pos h', Fp.fused_of_not_overflows rfl hzero]
    cases hc with
    | nan => exact Bool.noConfusion hC
    | inf t => cases neg <;> cases t <;> simp [FpKind.isInf, FpKind.negative, Fp.add]
    | zero | denormal | normal => simp [FpKind.isInf, Fp.add]
  | zero h h' h'' =>
    rw [h, if_neg Bool.false_ne_true, h', if_neg Bool.false_ne_true, if_pos h'', Fp.fused_of_not_overflows rfl hzero]
    cases hc with
    | nan => exact Bool.noConfusion hC
    | inf t => exact ⟨fun h => absurd h hzero, fun _ => Fmt.result_inf fl t⟩
    | zero | denormal => simp [FpKind.isInf, FpKind.isZero, FpKind.negative, Fp.add]
    | normal t k j hnormal => simp [FpKind.isInf, FpKind.isZero, Fp.add, Fmt.result_normal fl hnormal]
  | number m e h h' h'' hm =>
    rw [h, if_neg Bool.false_ne_true, h', if_neg Bool.false_ne_true, h'', if_neg Bool.false_ne_true]
    cases hc with
    | nan => exact Bool.noConfusion hC
    | inf t =>
      refine ⟨fun hover => ?_, fun hover => ?_⟩
      · have hinf := Fmt.round_fst_of_overflow hf env neg hm e hover.2
        rw [Fp.fused_inf_of_overflows rfl hover hinf]
        obtain rfl : fl = false := hfl h'' rfl
        by_cases hsign : neg = t
        · subst hsign
          simp [FpKind.negative, Fmt.result, Fmt.round, Fmt.pack, flushDet_false, Fmt.infOf_eq_bits]
        · simp [FpKind.negative, hsign, Ne.symm hsign]
      · rw [Fp.fused_of_not_overflows rfl hover]
        exact Fmt.result_inf fl t
    | zero | denormal | normal => trivial

end

/-- A datum that is no NaN has one kind. -/
theorem Fmt.Datum.kind_eq {f : Fmt} (hf : f.Regular) {w : DWord} {k : FpKind} {x : Operand} (h : f.Datum w k x)
    (hk : k.isNan = false) : f.kind w = k := by
  have hexp := hf.two_pow_expBits
  have hbias := hf.bias_pos
  cases h with
  | nan => exact Bool.noConfusion hk
  | inf s => rw [Fmt.infOf_eq_bits, Fmt.kind_bits f.fields_inf s hf, if_pos rfl, if_pos rfl]
  | zero s => rw [Fmt.zeroOf_eq_bits, Fmt.kind_bits f.fields_zero s hf, if_neg (by omega), if_pos rfl, if_pos rfl]
  | denormal s m hm hm0 => rw [Fmt.kind_bits hm s hf, if_neg (by omega), if_pos rfl, if_neg hm0]
  | normal s m e hnormal => exact Fmt.kind_pack_fin hf Config.default s hnormal

/-! ### Operand lists -/

theorem Fmt.isNan_unpack {f : Fmt} (hf : f.Regular) (w : DWord) : (f.unpack w).val.isNan = (f.kind w).isNan := by
  have hiff := Fmt.unpack_nan_iff hf w
  cases hval : (f.unpack w).val with
  | nan q => rw [(hiff q).1 hval]; rfl
  | _ =>
    cases hkind : f.kind w with
    | nan q => exact Fp.noConfusion (hval.symm.trans ((hiff q).2 hkind))
    | _ => rfl

/-- What is flushed is a denormalized number. -/
theorem Fmt.flushed_unpack (f : Fmt) (w : DWord) : (f.unpack w).flushed = (f.kind w).isDenormal := by
  simp only [Fmt.unpack, Fmt.kind]
  split
  · split <;> rfl
  · split
    · split
      · rename_i hm
        simp [hm, FpKind.isDenormal]
      · rename_i hm
        simp [hm, FpKind.isDenormal]
    · rfl

/-- What operands are delivered with: whether one was flushed, where none is a NaN. -/
theorem Fmt.deliver_unpack {f g : Fmt} (hg : g.Regular) (env : FpEnv) {ws : List DWord}
    (h : ∀ w ∈ ws, (g.kind w).isNan = false) (r : Fp × Det) :
    f.deliver env (ws.map g.unpack) r = f.result env (ws.any fun w => (g.kind w).isDenormal) r := by
  rw [Fmt.deliver_eq_result (List.forall_mem_map.2 fun w hw => (Fmt.isNan_unpack hg w).trans (h w hw)), List.any_map]
  exact congrArg (f.result env · r) (List.any_congr rfl fun w => g.flushed_unpack w)

/-- NaN operands come first: a signaling one (R656). -/
theorem Fmt.nanFirst_of_signaling {g : Fmt} (hg : g.Regular) {ws : List DWord} (h : ∃ w ∈ ws, g.kind w = .nan false)
    (r : Fp × Det) : nanFirst (ws.map g.unpack) r = (.nan true, Det.v) := by
  obtain ⟨w, hw, hk⟩ := h
  have hs : (ws.map g.unpack).any (·.val.isSnan) = true :=
    List.any_eq_true.2 ⟨_, List.mem_map_of_mem hw, by rw [(Fmt.unpack_nan_iff hg w false).2 hk]; rfl⟩
  rw [nanFirst, hs, if_pos rfl]

theorem Fmt.any_isNan_unpack {g : Fmt} (hg : g.Regular) {ws : List DWord} (h : ∃ w ∈ ws, g.kind w = .nan true) :
    (ws.map g.unpack).any (·.val.isNan) = true := by
  obtain ⟨w, hw, hk⟩ := h
  exact List.any_eq_true.2 ⟨_, List.mem_map_of_mem hw, by rw [(Fmt.unpack_nan_iff hg w true).2 hk]; rfl⟩

/-- A quiet NaN operand, with no signaling one (R656). -/
theorem Fmt.nanFirst_of_quiet {g : Fmt} (hg : g.Regular) {ws : List DWord} (h : ∀ w ∈ ws, g.kind w ≠ .nan false)
    (h' : ∃ w ∈ ws, g.kind w = .nan true) (r : Fp × Det) : nanFirst (ws.map g.unpack) r = (.nan true, 0) := by
  have hs : (ws.map g.unpack).any (·.val.isSnan) = false := by
    refine List.any_eq_false.2 fun x hx hsnan => ?_
    obtain ⟨v, hv, rfl⟩ := List.mem_map.1 hx
    refine h v hv ((Fmt.unpack_nan_iff hg v false).1 ?_)
    cases hval : (g.unpack v).val with
    | nan q => rw [hval, Fp.isSnan, Bool.not_eq_true'] at hsnan; rw [hsnan]
    | _ => rw [hval] at hsnan; exact Bool.noConfusion hsnan
  rw [nanFirst, hs, Fmt.any_isNan_unpack hg h', if_neg Bool.false_ne_true, if_pos rfl]

theorem Fmt.deliver_of_signaling {f g : Fmt} (hg : g.Regular) (env : FpEnv) {ws : List DWord}
    (h : ∃ w ∈ ws, g.kind w = .nan false) (r : Fp × Det) :
    f.deliver env (ws.map g.unpack) r = ⟨f.qnan env.cfg, Det.v, 0⟩ := by
  have hdet : flushInexact (ws.map g.unpack) (Det.v ||| 0) = Det.v := by
    have hv : ((Det.v ||| 0 : Det) &&& (Det.v ||| Det.z) == 0) = false := by decide
    rw [flushInexact, hv, Bool.and_false, Bool.false_and]
    rfl
  simp only [Fmt.deliver, Fmt.nanFirst_of_signaling hg h, Fmt.round, Fmt.pack, hdet]

theorem Fmt.deliver_of_quiet {f g : Fmt} (hg : g.Regular) (env : FpEnv) {ws : List DWord}
    (h : ∀ w ∈ ws, g.kind w ≠ .nan false) (h' : ∃ w ∈ ws, g.kind w = .nan true) (r : Fp × Det) :
    f.deliver env (ws.map g.unpack) r = ⟨f.qnan env.cfg, 0, 0⟩ := by
  have hdet : flushInexact (ws.map g.unpack) (0 ||| 0) = 0 := by
    rw [flushInexact, Fmt.any_isNan_unpack hg h', Bool.not_true, Bool.and_false]
    rfl
  simp only [Fmt.deliver, Fmt.nanFirst_of_quiet hg h h', Fmt.round, Fmt.pack, hdet]

/-- Settles O56. -/
theorem fpSpecialOperands : Obligations.FpSpecialOperands := by
  intro f g env a b c hformat hformat' ha hb hc q A B neg invalid flushed two plain sums noProduct product overflows fuses fused
  have hf := Fmt.regular_of_eq hformat
  have hg := Fmt.regular_of_eq hformat'
  refine ⟨fun ws r => ⟨fun h => Fmt.deliver_of_signaling hg env h r, fun h h' => Fmt.deliver_of_quiet hg env h h' r,
    fun h hr => ?neg⟩, fun hA hB => ?tables⟩
  case neg =>
    show f.deliver env (ws.map g.unpack) (r.1.neg, r.2) = ⟨(f.deliver env (ws.map g.unpack) r).value ^^^ f.signBit,
      (f.deliver env (ws.map g.unpack) r).det, 0⟩
    rw [Fmt.deliver_unpack hg env h, Fmt.deliver_unpack hg env h]
    exact Fmt.result_neg hf env _ hr r.2
  case tables =>
    have dA := ha.datum hf
    have dB := hb.datum hf
    have htwo (r : Fp × Det) : two r = f.result env ([A, B].any FpKind.isDenormal) r :=
      (Fmt.deliver_unpack hf env (ws := [b, a]) (by simp [hA, hB, A, B]) r).trans
        (congrArg (f.result env · r) (by simp [A, B, Bool.or_comm]))
    refine ⟨?sum, ?difference, ?product, ?quotient, fun hC => ?fused⟩
    case sum =>
      rw [htwo]
      exact Fmt.sumTable env _ dA dB hA hB hf
    case difference =>
      have dA' := dA.flip hf
      have hA' : A.flip.isNan = false := (FpKind.isNan_flip A).trans hA
      rw [htwo]
      show f.SumTable invalid plain (f.kind (a ^^^ f.signBit)) B (a ^^^ f.signBit) b _
      rw [dA'.kind_eq hf hA']
      exact Fmt.sumTable env _ dA' dB hA' hB hf
    case product =>
      rw [htwo]
      exact Fmt.productTable env _ dA dB hA hB
    case quotient =>
      rw [htwo]
      exact Fmt.quotientTable env _ dA dB hA hB
    case fused =>
      have dC := hc.datum hf
      have dC' := dC.flip hf
      have hC' : (f.kind c).flip.isNan = false := (FpKind.isNan_flip _).trans hC
      have hfused (v : Fp) : fused v = f.result env ([A, B, f.kind c].any FpKind.isDenormal)
          (Fp.fused f env ((f.unpack b).val.mul (f.unpack a).val) v) :=
        (Fmt.deliver_unpack hf env (ws := [b, a, c]) (by simp [hA, hB, hC, A, B]) _).trans
          (congrArg (f.result env · _) (by simp [A, B, Bool.or_left_comm]))
      constructor
      · rw [hfused]
        exact Fmt.fusedTable env _ dA dB hA hB hf dC hC FpKind.not_any_isDenormal
      · show f.FusedTable env invalid (fun v => ⟨v, lostDet ([A, B, f.kind (c ^^^ f.signBit)].any FpKind.isDenormal), 0⟩) A B
          (f.kind (c ^^^ f.signBit)) (c ^^^ f.signBit) product.2 _
        have hflip : [A, B, (f.kind c).flip].any FpKind.isDenormal = [A, B, f.kind c].any FpKind.isDenormal := by
          simp [FpKind.isDenormal_flip]
        rw [hfused, dC'.kind_eq hf hC', ← hflip]
        exact Fmt.fusedTable env _ dA dB hA hB hf dC' hC' FpKind.not_any_isDenormal

end Sys2Proof.Machine
end

section
/-! PROOFS. MAXF and MINF, the operations on one operand, and the reciprocals with the error that a product allows (O57). -/
namespace Sys2Proof.Machine

/-! ### Data that are no NaNs -/

/-- Of numbers and infinities, one is less than another exactly if it is below it. -/
theorem Fp.less_iff_below {x y : Fp} (hx : x.Number ∨ ∃ s, x = .inf s) (hy : y.Number ∨ ∃ t, y = .inf t) :
    x.less y = true ↔ x.Below y := by
  obtain hx | ⟨s, rfl⟩ := hx
  · obtain hy | ⟨t, rfl⟩ := hy
    · rw [Fp.less_iff hx hy]
      cases x with
      | nan | inf => exact hx.elim
      | zero | fin =>
        cases y with
        | nan | inf => exact hy.elim
        | zero | fin => exact Iff.rfl
    · cases x with
      | nan | inf => exact hx.elim
      | zero | fin => simp [Fp.less, Fp.Below]
  · obtain hy | ⟨t, rfl⟩ := hy
    · cases y with
      | nan | inf => exact hy.elim
      | zero | fin => exact Iff.rfl
    · simp [Fp.less, Fp.Below]

namespace Fmt.Datum
variable {f : Fmt} {a : DWord} {A : FpKind} {x : Operand} (ha : f.Datum a A x)
include ha

theorem eq_of_isZero (hz : A.isZero = true) : x = ⟨.zero A.negative, A.isDenormal⟩ := by
  cases ha with
  | zero | denormal => rfl
  | _ => exact Bool.noConfusion hz

variable (hA : A.isNan = false)
include hA

theorem number_or_inf : x.val.Number ∨ ∃ s, x.val = .inf s := by
  cases ha with
  | nan => exact Bool.noConfusion hA
  | inf s => exact .inr ⟨s, rfl⟩
  | zero | denormal => exact .inl trivial
  | normal s m e h => exact .inl h.ne_zero

theorem isNan_val : x.val.isNan = false := by
  cases ha with
  | nan => exact Bool.noConfusion hA
  | _ => rfl

theorem isZero_of_val {s : Bool} (hx : x.val = .zero s) : A.isZero = true := by
  cases ha with
  | zero | denormal => rfl
  | nan => exact Bool.noConfusion hA
  | _ => exact Fp.noConfusion hx

variable (hf : f.Regular)
include hf

/-- The pattern of the operand is that of the datum, with a denormalized number replaced by its zero. -/
theorem pack_val (cfg : Config) : f.pack cfg x.val = f.flush a := by
  rw [Fmt.flush, ha.kind_eq hf hA]
  cases ha with
  | nan => exact Bool.noConfusion hA
  | inf s => exact (Fmt.infOf_eq_bits f s).symm
  | zero s | denormal s => exact (Fmt.zeroOf_eq_bits f s).symm
  | normal s m e h => rfl

theorem flush_of_isZero (hz : A.isZero = true) : f.flush a = f.zeroOf A.negative := by
  rw [← ha.pack_val hA hf Config.default, ha.eq_of_isZero hz, Fmt.zeroOf_eq_bits]
  rfl

variable (env : FpEnv) (fl : Bool)

theorem result_val : f.result env fl (x.val, 0#6) = ⟨f.flush a, lostDet fl, 0⟩ := by
  rw [← ha.pack_val hA hf env.cfg]
  cases ha with
  | nan => exact Bool.noConfusion hA
  | inf s => rw [Fmt.result_inf, Fmt.infOf_eq_bits]; rfl
  | zero s | denormal s => rw [Fmt.result_zero, Fmt.zeroOf_eq_bits]; rfl
  | normal s m e h => exact Fmt.result_normal fl h s

theorem result_val_neg : f.result env fl (x.val.neg, 0#6) = ⟨f.flush a ^^^ f.signBit, lostDet fl, 0⟩ := by
  rw [Fmt.result_neg hf env fl (ha.isNan_val hA), ha.result_val hA hf]

theorem result_val_abs : f.result env fl (x.val.abs, 0#6) = ⟨f.flush a &&& ~~~f.signBit, lostDet fl, 0⟩ := by
  rw [← ha.pack_val hA hf env.cfg]
  cases ha with
  | nan => exact Bool.noConfusion hA
  | inf s => rw [Fp.abs, Fmt.result_inf, Fmt.pack, Fmt.bits_and_not_signBit f.fields_inf, Fmt.infOf_eq_bits]
  | zero s | denormal s =>
    rw [Fp.abs, Fmt.result_zero, Fmt.pack, Fmt.bits_and_not_signBit f.fields_zero, Fmt.zeroOf_eq_bits]
  | normal s m e h =>
    rw [Fp.abs, Fmt.result_normal fl h, Fmt.pack, Fmt.bits_and_not_signBit (h.fields hf).1]
    rfl

end Fmt.Datum

/-! ### The greater and the smaller operand (R677, R679) -/

theorem FpKind.isDenormal_of_isNan {k : FpKind} (h : k.isNan = true) : k.isDenormal = false := by
  cases k with
  | denormal => exact Bool.noConfusion h
  | _ => rfl

/-- NaN operands of MAXF and MINF. -/
theorem Fmt.extreme_of_nan {f : Fmt} (env : FpEnv) (larger : Bool) {a b : DWord} {d : Det}
    (hnan : (f.kind a).isNan = true ∨ (f.kind b).isNan = true)
    (hfirst : ∀ r, nanFirst [f.unpack b, f.unpack a] r = (.nan true, d)) :
    f.extreme env larger (f.unpack b) (f.unpack a) = ⟨f.qnan env.cfg, d, 0⟩ := by
  have hflushed : ((f.unpack b).flushed && (f.unpack a).flushed) = false := by
    rw [f.flushed_unpack, f.flushed_unpack]
    obtain h | h := hnan
    · rw [FpKind.isDenormal_of_isNan h, Bool.and_false]
    · rw [FpKind.isDenormal_of_isNan h, Bool.false_and]
  simp only [Fmt.extreme, hfirst, hflushed]
  rfl

/-- Two zeros. -/
theorem Fmt.extreme_zeros (f : Fmt) (env : FpEnv) (larger : Bool) (s t : Bool) (fl fl' : Bool) :
    (f.extreme env larger ⟨.zero s, fl⟩ ⟨.zero t, fl'⟩).det = 0 ∧ (f.extreme env larger ⟨.zero s, fl⟩ ⟨.zero t, fl'⟩).value =
      f.zeroOf (if fl && fl' && s != t then freeBit env.free else if larger then s && t else s || t) := by
  rw [Fmt.zeroOf_eq_bits]
  simp only [Fmt.extreme, nanFirst, List.any_cons, List.any_nil, Fp.isSnan, Fp.isNan]
  generalize (fl && fl' && s != t) = free
  cases free <;> exact ⟨rfl, rfl⟩

/-- Operands that are not both zeros: the order chooses. -/
theorem Fmt.extreme_of_order (f : Fmt) (env : FpEnv) (larger : Bool) {x y : Operand} (hy : y.val.isNan = false)
    (hx : x.val.isNan = false) (h : ∀ s t, ¬(y.val = .zero s ∧ x.val = .zero t)) :
    (f.extreme env larger y x).det = 0 ∧ (f.extreme env larger y x).value =
      f.pack env.cfg (if y.val.less x.val == larger then x.val else y.val) := by
  obtain ⟨xv, xf⟩ := x
  obtain ⟨yv, yf⟩ := y
  cases yv with
  | nan => exact Bool.noConfusion hy
  | inf | fin =>
    cases xv with
    | nan => exact Bool.noConfusion hx
    | _ => exact ⟨rfl, rfl⟩
  | zero s =>
    cases xv with
    | nan => exact Bool.noConfusion hx
    | zero t => exact absurd ⟨rfl, rfl⟩ (h s t)
    | _ => exact ⟨rfl, rfl⟩

section
variable {f : Fmt} (hf : f.Regular) (env : FpEnv) (larger : Bool) {a b : DWord} {A B : FpKind} {x y : Operand}
  (ha : f.Datum a A x) (hb : f.Datum b B y)
include ha hb

/-- MAXF and MINF of two zeros or denormalized numbers. -/
theorem Fmt.extreme_of_isZero (hzA : A.isZero = true) (hzB : B.isZero = true) : (f.extreme env larger y x).det = 0 ∧
    (A.negative = B.negative → (f.extreme env larger y x).value = f.zeroOf A.negative) ∧
    (A.negative ≠ B.negative →
      if A.isDenormal && B.isDenormal then
        (f.extreme env larger y x).value = f.zeroOf false ∨ (f.extreme env larger y x).value = f.zeroOf true
      else (f.extreme env larger y x).value = f.zeroOf (!larger)) := by
  rw [ha.eq_of_isZero hzA, hb.eq_of_isZero hzB]
  obtain ⟨hdet, hvalue⟩ := f.extreme_zeros env larger B.negative A.negative B.isDenormal A.isDenormal
  refine ⟨hdet, fun hsign => ?same, fun hsign => ?different⟩
  case same =>
    rw [hvalue, hsign]
    simp
  case different =>
    have hne : (B.negative != A.negative) = true := bne_iff_ne.2 (Ne.symm hsign)
    rw [hvalue, hne, Bool.and_true, Bool.and_comm]
    split
    · cases freeBit env.free
      · exact .inl rfl
      · exact .inr rfl
    · revert hsign
      cases A.negative <;> cases B.negative <;> cases larger <;> simp

include hf in
/-- MAXF and MINF of operands that are no NaNs and not both zeros. -/
theorem Fmt.extreme_of_not_isZero (hA : A.isNan = false) (hB : B.isNan = false) (hz : ¬(A.isZero = true ∧ B.isZero = true)) :
    (f.extreme env larger y x).det = 0 ∧
      (y.val.Below x.val → (f.extreme env larger y x).value = f.flush (if larger then a else b)) ∧
      (¬y.val.Below x.val → (f.extreme env larger y x).value = f.flush (if larger then b else a)) := by
  obtain ⟨hdet, hvalue⟩ := f.extreme_of_order env larger (hb.isNan_val hB) (ha.isNan_val hA)
    fun s t h => hz ⟨ha.isZero_of_val hA h.2, hb.isZero_of_val hB h.1⟩
  have hpack (c : Bool) : f.pack env.cfg (if c then x.val else y.val) = f.flush (if c then a else b) := by
    cases c
    · exact hb.pack_val hB hf env.cfg
    · exact ha.pack_val hA hf env.cfg
  rw [← Fp.less_iff_below (hb.number_or_inf hB) (ha.number_or_inf hA), hvalue, hpack]
  refine ⟨hdet, fun hless => ?_, fun hless => ?_⟩
  · rw [hless]
    cases larger <;> rfl
  · rw [Bool.eq_false_iff.2 hless]
    cases larger <;> rfl

end

/-! ### Tables of the operations on one operand (R688, R690, R692, R741) -/

theorem jam_eq_fin (neg : Bool) {m : Nat} (e : Int) {lost : Bool} (h : m ≠ 0 ∨ lost = true) :
    ∃ m' e', m' ≠ 0 ∧ jam neg m e lost = .fin neg m' e' := by
  cases lost with
  | false => exact ⟨m, e, h.resolve_right Bool.false_ne_true, rfl⟩
  | true => exact ⟨2 * m + 1, e - 1, Nat.succ_ne_zero _, rfl⟩

/-- The reciprocal of a number is a number. -/
theorem Fp.recip_fin (f : Fmt) (s : Bool) {m : Nat} (e : Int) :
    ∃ m' e', m' ≠ 0 ∧ (Fp.fin s m e).recip f = (.fin s m' e', Det.i) := by
  have hlost : (1 <<< (2 * f.frac + 6)) / m ≠ 0 ∨ ((1 <<< (2 * f.frac + 6)) % m != 0) = true := by
    have hpos : 1 <<< (2 * f.frac + 6) ≠ 0 := by simp [Nat.one_shiftLeft]
    by_contra hzero
    simp only [not_or, not_not, bne_iff_ne] at hzero
    apply hpos
    rw [← Nat.div_add_mod (1 <<< (2 * f.frac + 6)) m, hzero.1, hzero.2, Nat.mul_zero]
  obtain ⟨m', e', hm', hjam⟩ := jam_eq_fin s (0 - e - (2 * f.frac + 6 : Nat)) hlost
  exact ⟨m', e', hm', by rw [Fp.recip, divFin, hjam]⟩

/-- The reciprocal of the square root of a positive number is a number. -/
theorem Fp.rsqrt_fin (f : Fmt) (m : Nat) (e : Int) :
    ∃ m' e', m' ≠ 0 ∧ (Fp.fin false m e).rsqrt f = (.fin false m' e', Det.i) := by
  have hlost (y a : Nat) : y ≠ 0 ∨ (y * y * a != 2 ^ (2 * (2 * f.frac + 6))) = true := by
    by_cases hy : y = 0
    · refine .inr (bne_iff_ne.2 ?_)
      rw [hy, Nat.mul_zero, Nat.zero_mul]
      exact (Nat.two_pow_pos _).ne
    · exact .inl hy
  obtain ⟨m', e', hm', hjam⟩ := jam_eq_fin false (-(e / 2) - (2 * f.frac + 6 : Nat))
    (hlost (natSqrt (2 ^ (2 * (2 * f.frac + 6)) / (m <<< (e % 2).toNat))) (m <<< (e % 2).toNat))
  exact ⟨m', e', hm', by simp only [Fp.rsqrt, Bool.false_eq_true, if_false, hjam]⟩

section
variable {f : Fmt} {a : DWord} {A : FpKind} {x : Operand} (ha : f.Datum a A x) (hA : A.isNan = false) (env : FpEnv)
include ha hA

theorem Fmt.sqrtTable :
    if A.isZero then f.result env A.isDenormal (x.val.sqrt f) = ⟨f.zeroOf A.negative, lostDet A.isDenormal, 0⟩
    else if A.negative then f.result env A.isDenormal (x.val.sqrt f) = ⟨f.qnan env.cfg, Det.v, 0⟩
    else if A.isInf then f.result env A.isDenormal (x.val.sqrt f) = ⟨f.infOf false, lostDet A.isDenormal, 0⟩
    else True := by
  cases ha with
  | nan => exact Bool.noConfusion hA
  | zero s | denormal s => exact Fmt.result_zero _ s
  | inf s =>
    cases s
    · exact Fmt.result_inf _ false
    · exact Fmt.result_invalid _
  | normal s =>
    cases s
    · trivial
    · exact Fmt.result_invalid _

theorem Fmt.recipTable :
    if A.isZero then f.result env A.isDenormal (x.val.recip f) = ⟨f.infOf A.negative, Det.z, 0⟩
    else if A.isInf then f.result env A.isDenormal (x.val.recip f) = ⟨f.zeroOf A.negative, 0, 0⟩
    else ∃ m e, m ≠ 0 ∧ x.val.recip f = (.fin A.negative m e, Det.i) := by
  cases ha with
  | nan => exact Bool.noConfusion hA
  | zero s | denormal s => exact Fmt.result_division_by_zero _ s
  | inf s => exact Fmt.result_zero _ s
  | normal s m e => exact Fp.recip_fin f s e

theorem Fmt.rsqrtTable :
    if A.isZero then f.result env A.isDenormal (x.val.rsqrt f) = ⟨f.infOf A.negative, Det.z, 0⟩
    else if A.negative then f.result env A.isDenormal (x.val.rsqrt f) = ⟨f.qnan env.cfg, Det.v, 0⟩
    else if A.isInf then f.result env A.isDenormal (x.val.rsqrt f) = ⟨f.zeroOf false, 0, 0⟩
    else ∃ m e, m ≠ 0 ∧ x.val.rsqrt f = (.fin false m e, Det.i) := by
  cases ha with
  | nan => exact Bool.noConfusion hA
  | zero s | denormal s => exact Fmt.result_division_by_zero _ s
  | inf s =>
    cases s
    · exact Fmt.result_zero _ false
    · exact Fmt.result_invalid _
  | normal s m e =>
    cases s
    · exact Fp.rsqrt_fin f m e
    · exact Fmt.result_invalid _

theorem Fmt.conversionTable (g : Fmt) :
    if A.isZero then g.result env A.isDenormal (x.val, 0) = ⟨g.zeroOf A.negative, lostDet A.isDenormal, 0⟩
    else if A.isInf then g.result env A.isDenormal (x.val, 0) = ⟨g.infOf A.negative, 0, 0⟩
    else True := by
  cases ha with
  | nan => exact Bool.noConfusion hA
  | zero s | denormal s => exact Fmt.result_zero _ s
  | inf s => exact Fmt.result_inf _ s
  | normal => trivial

end

/-! ### The error that a product allows (R688, R690) -/

/-- A pattern moved by at most `n`, modulo 2 ^ 64, that stays in the same half of the `2 * h` patterns lies no more than `n`
away: what wraps around leaves its half, or `n` is as great as a half. -/
theorem wrapped_near {h v shift n : Nat} (hh : 2 * h ≤ 2 ^ 64) (hv : v < 2 * h) (hshift : shift ≤ 2 * n)
    (hhalf : v / h = (v + shift - n) % 2 ^ 64 / h) :
    (v + shift - n) % 2 ^ 64 ≤ v + n ∧ v ≤ (v + shift - n) % 2 ^ 64 + n := by
  have hpos : 0 < h := by omega
  have hq : v / h < 2 := (Nat.div_lt_iff_lt_mul hpos).2 hv
  have hdiv := Nat.div_add_mod v h
  have hdiv' := Nat.div_add_mod ((v + shift - n) % 2 ^ 64) h
  have hmod := Nat.mod_lt v hpos
  have hmod' := Nat.mod_lt ((v + shift - n) % 2 ^ 64) hpos
  rw [← hhalf] at hdiv'
  generalize v / h = q at *
  interval_cases q <;> omega

/-- A pattern that unpacks to a number that is not zero is a normalized number. -/
theorem Fmt.kind_of_isFin {f : Fmt} {w : DWord} (h : (f.unpack w).isFin = true) :
    f.kind w = .normal (w.toNat.testBit (f.frac + f.expBits)) := by
  simp only [Fmt.unpack] at h
  simp only [Fmt.kind]
  split at h
  · split at h <;> exact Bool.noConfusion h
  · rename_i hexp
    split at h
    · exact Bool.noConfusion h
    · rename_i hzero
      rw [if_neg hexp, if_neg hzero]

section
variable {f : Fmt} (hf : f.Regular)
include hf

theorem Fmt.nudge_numberOf (neg : Bool) {k : Nat} {j : Int} (h : f.Normal k j) {shift n : Nat} (hshift : shift ≤ 2 * n) :
    f.kind (f.nudge (f.numberOf neg k j) shift n) = .normal neg ∧
      (f.nudge (f.numberOf neg k j) shift n).toNat ≤ (f.numberOf neg k j).toNat + n ∧
      (f.numberOf neg k j).toNat ≤ (f.nudge (f.numberOf neg k j) shift n).toNat + n := by
  obtain ⟨hfields, -, -⟩ := h.fields hf
  have hsign : (f.numberOf neg k j).toNat.testBit (f.frac + f.expBits) = neg := hfields.sign_bits neg hf
  have hlt : (f.numberOf neg k j).toNat < 2 * 2 ^ (f.frac + f.expBits) := by
    have hmagnitude := hfields.magnitude_lt
    have hbits := hfields.toNat_bits neg hf
    rw [Fmt.numberOf, hbits]
    cases neg <;> simp only [Bool.toNat_true, Bool.toNat_false] <;> omega
  have hwidth : 2 * 2 ^ (f.frac + f.expBits) ≤ 2 ^ 64 := by
    rw [← pow_succ']
    exact Nat.pow_le_pow_right two_pos hf.width_le
  rw [Fmt.nudge]
  split
  · rename_i haccept
    obtain ⟨hfin, hhalf⟩ := (Bool.and_eq_true _ _).mp haccept
    rw [beq_iff_eq] at hhalf
    rw [Fmt.kind_of_isFin hfin, Nat.testBit_eq_decide_div_mod_eq, ← hhalf, ← Nat.testBit_eq_decide_div_mod_eq, hsign]
    rw [BitVec.toNat_ofNat] at hhalf ⊢
    exact ⟨rfl, wrapped_near hwidth hlt hshift hhalf⟩
  · exact ⟨Fmt.kind_pack_fin hf Config.default neg h, Nat.le_add_right _ _, Nat.le_add_right _ _⟩

end

section
variable (f : Fmt) (env : FpEnv) (xs : List Operand) (r : Fp × Det)

/-- What RECIPF and RSQRTF give: what is delivered, or with U a zero, or without U a nudged number. -/
theorem Fmt.approximate_cases : (f.approximate env xs r).det = (f.deliver env xs r).det ∧
    (((f.deliver env xs r).det &&& Det.u ≠ 0 ∧ (env.xe.getLsbD 1 = false →
        (f.approximate env xs r).value = f.pack env.cfg (.zero (freeBit env.free)))) ∨
      ((f.deliver env xs r).det &&& Det.u = 0 ∧ (f.approximate env xs r = f.deliver env xs r ∨
        ((f.deliver env xs r).det &&& Det.i ≠ 0 ∧ ∃ shift ≤ 2 * env.cfg.recipApproxUlp,
          (f.approximate env xs r).value = f.nudge (f.deliver env xs r).value shift env.cfg.recipApproxUlp)))) := by
  simp only [Fmt.approximate]
  generalize f.deliver env xs r = o
  split
  · rename_i hu
    rw [bne_iff_ne] at hu
    split
    · rename_i hxe
      exact ⟨rfl, .inl ⟨hu, fun h => Bool.noConfusion (h.symm.trans hxe)⟩⟩
    · exact ⟨rfl, .inl ⟨hu, fun _ => rfl⟩⟩
  · rename_i hu
    rw [bne_iff_ne, not_not] at hu
    split
    · exact ⟨rfl, .inr ⟨hu, .inl rfl⟩⟩
    · rename_i hi
      simp only [Bool.or_eq_true, not_or, beq_iff_eq] at hi
      exact ⟨rfl, .inr ⟨hu, .inr ⟨hi.1.2, _, Nat.le_of_lt_succ (Nat.mod_lt _ (Nat.succ_pos _)), rfl⟩⟩⟩

/-- What is neither inexact nor underflows is delivered as it is. -/
theorem Fmt.approximate_of_exact {v : DWord} {d : Det} {n : Nat} (hdeliver : f.deliver env xs r = ⟨v, d, n⟩)
    (hu : d &&& Det.u = 0) (hi : d &&& Det.i = 0) : f.approximate env xs r = ⟨v, d, n⟩ := by
  obtain ⟨-, hcases⟩ := f.approximate_cases env xs r
  rw [hdeliver] at hcases
  obtain ⟨h, -⟩ | ⟨-, h | ⟨h, -⟩⟩ := hcases
  · exact absurd hu h
  · exact h
  · exact absurd hi h

end

/-- An outcome detects what another does, I among it; in range it is a normalized number of the sign no further from it than
the product's parameter; with U not enabled it is a zero. -/
def Fmt.NearOutcome (f : Fmt) (env : FpEnv) (o exact : FpOut) (neg : Bool) : Prop :=
  o.det = exact.det ∧ exact.det &&& Det.i ≠ 0 ∧
    (exact.det &&& (Det.o ||| Det.u) = 0 → f.kind o.value = .normal neg ∧
      o.value.toNat ≤ exact.value.toNat + env.cfg.recipApproxUlp ∧
      exact.value.toNat ≤ o.value.toNat + env.cfg.recipApproxUlp) ∧
    (exact.det &&& Det.u ≠ 0 → env.xe.getLsbD 1 = false → o.value = f.zeroOf false ∨ o.value = f.zeroOf true)

/-- What is detected with an inexact result: I, and of O and U what its rounding detects. -/
theorem flushDet_inexact : ∀ (fl : Bool) (d : Det), flushDet fl (Det.i ||| d) &&& Det.i ≠ 0 ∧
    flushDet fl (Det.i ||| d) &&& (Det.o ||| Det.u) = d &&& (Det.o ||| Det.u) := by decide

theorem det_underflow_of_inRange : ∀ d : Det, d &&& (Det.o ||| Det.u) = 0 → d &&& Det.u = 0 := by decide

/-- An inexact number that is not zero is approximated within the product's error. -/
theorem Fmt.approximate_near {f : Fmt} (hf : f.Regular) (env : FpEnv) {xs : List Operand} {fl neg : Bool} {m : Nat} {e : Int}
    (hm : m ≠ 0) (hdeliver : f.deliver env xs (.fin neg m e, Det.i) = f.result env fl (.fin neg m e, Det.i)) :
    f.NearOutcome env (f.approximate env xs (.fin neg m e, Det.i)) (f.deliver env xs (.fin neg m e, Det.i)) neg := by
  obtain ⟨hdet, hcases⟩ := f.approximate_cases env xs (.fin neg m e, Det.i)
  obtain ⟨hinexact, hrounding⟩ := flushDet_inexact fl (f.round env (.fin neg m e)).2
  have hdetEq : (f.deliver env xs (.fin neg m e, Det.i)).det = flushDet fl (Det.i ||| (f.round env (.fin neg m e)).2) :=
    congrArg FpOut.det hdeliver
  refine ⟨hdet, hdetEq ▸ hinexact, fun hrange => ?inRange, fun hu hxe => ?underflow⟩
  case inRange =>
    obtain ⟨k, j, hround, hnormal, -⟩ := Fmt.nearest_of_inRange hf env neg hm e (hrounding ▸ hdetEq ▸ hrange)
    have hvalue : (f.deliver env xs (.fin neg m e, Det.i)).value = f.numberOf neg k j := by
      rw [hdeliver, Fmt.result, hround]
      rfl
    obtain ⟨hu, -⟩ | ⟨-, heq | ⟨-, shift, hshift, heq⟩⟩ := hcases
    · exact absurd (det_underflow_of_inRange _ hrange) hu
    · rw [heq, hvalue]
      exact ⟨Fmt.kind_pack_fin hf env.cfg neg hnormal, Nat.le_add_right _ _, Nat.le_add_right _ _⟩
    · rw [heq, hvalue]
      exact Fmt.nudge_numberOf hf neg hnormal hshift
  case underflow =>
    obtain ⟨-, heq⟩ | ⟨hu', -⟩ := hcases
    · rw [heq hxe, Fmt.pack, ← Fmt.zeroOf_eq_bits]
      cases freeBit env.free
      · exact .inl rfl
      · exact .inr rfl
    · exact absurd hu' hu

/-- RECIPF and RSQRTF of a NaN. -/
theorem Fmt.approximate_of_nan {f : Fmt} (hf : f.Regular) (env : FpEnv) {a : DWord} (h : (f.kind a).isNan = true)
    (r : Fp × Det) : f.approximate env [f.unpack a] r = f.deliver env [f.unpack a] r := by
  have hdeliver : f.deliver env [f.unpack a] r = ⟨f.qnan env.cfg, Det.v, 0⟩ ∨
      f.deliver env [f.unpack a] r = ⟨f.qnan env.cfg, 0, 0⟩ := by
    cases hk : f.kind a with
    | nan quiet =>
      cases quiet with
      | false => exact .inl (Fmt.deliver_of_signaling hf env (ws := [a]) (by simpa using hk) r)
      | true => exact .inr (Fmt.deliver_of_quiet hf env (ws := [a]) (by simp [hk]) (by simpa using hk) r)
    | _ => rw [hk] at h; exact Bool.noConfusion h
  obtain h | h := hdeliver
  · exact (f.approximate_of_exact env _ r h (by decide) (by decide)).trans h.symm
  · exact (f.approximate_of_exact env _ r h (by decide) (by decide)).trans h.symm

/-- Settles O57. -/
theorem fpSpecialOneOperand : Obligations.FpSpecialOneOperand := by
  intro f g env a b hformat hformat' ha hb q A B x y one plain near
  have hf := Fmt.regular_of_eq hformat
  have dA : f.Datum a A x := ha.datum hf
  have dB : f.Datum b B y := hb.datum hf
  refine ⟨fun larger => ⟨fun h => ?signaling, fun hA hB h => ?quiet, fun hA hB => ?ordered⟩,
    fun r h => Fmt.approximate_of_nan hf env h r, fun hA => ?_⟩
  case signaling =>
    exact Fmt.extreme_of_nan env larger (h.imp (congrArg FpKind.isNan) (congrArg FpKind.isNan))
      (Fmt.nanFirst_of_signaling hf (ws := [b, a]) (by simpa [or_comm] using h))
  case quiet =>
    have hquiet {k : FpKind} (hk : k.isNan = true) (hne : k ≠ .nan false) : k = .nan true := by
      cases k with
      | nan quiet => cases quiet <;> simp_all
      | _ => exact Bool.noConfusion hk
    refine Fmt.extreme_of_nan env larger h (Fmt.nanFirst_of_quiet hf (ws := [b, a]) (by simp [hA, hB, A, B]) ?_)
    simpa [or_comm] using h.imp (hquiet · hA) (hquiet · hB)
  case ordered =>
    by_cases hz : A.isZero = true ∧ B.isZero = true
    · obtain ⟨hzA, hzB⟩ := hz
      obtain ⟨hdet, hsame, hdifferent⟩ := Fmt.extreme_of_isZero env larger dA dB hzA hzB
      refine ⟨hdet, fun _ _ => hdifferent, fun h => ?_⟩
      have hsign : A.negative = B.negative := by
        by_contra hne
        exact h ⟨hzA, hzB, hne⟩
      have hflushA : f.zeroOf A.negative = f.flush a := (dA.flush_of_isZero hA hf hzA).symm
      have hflushB : f.zeroOf A.negative = f.flush b := hsign ▸ (dB.flush_of_isZero hB hf hzB).symm
      have hflush (c : Bool) : f.zeroOf A.negative = f.flush (if c then a else b) ∧
          f.zeroOf A.negative = f.flush (if c then b else a) := by
        cases c
        · exact ⟨hflushB, hflushA⟩
        · exact ⟨hflushA, hflushB⟩
      exact ⟨fun _ => (hsame hsign).trans (hflush larger).1, fun _ => (hsame hsign).trans (hflush larger).2⟩
    · obtain ⟨hdet, horder⟩ := Fmt.extreme_of_not_isZero hf env larger dA dB hA hB hz
      exact ⟨hdet, fun hzA hzB => absurd ⟨hzA, hzB⟩ hz, fun _ => horder⟩
  have hone {h : Fmt} (r : Fp × Det) : h.deliver env [x] r = h.result env A.isDenormal r :=
    (Fmt.deliver_unpack hf env (ws := [a]) (by simp [hA, A]) r).trans (congrArg (h.result env · r) (by simp [A]))
  have happroximate {r : Fp × Det} {v : DWord} {d : Det} (h : f.result env A.isDenormal r = ⟨v, d, 0⟩)
      (hu : d &&& Det.u = 0) (hi : d &&& Det.i = 0) : f.approximate env [x] r = ⟨v, d, 0⟩ :=
    f.approximate_of_exact env [x] r ((hone r).trans h) hu hi
  refine ⟨(hone _).trans (dA.result_val_abs hA hf env _), (hone _).trans (dA.result_val_neg hA hf env _), ?sqrt, ?recip, ?rsqrt,
    ?conversion⟩
  case sqrt =>
    have htable := Fmt.sqrtTable dA hA env
    rw [← hone] at htable
    exact htable
  case conversion =>
    have htable := Fmt.conversionTable dA hA env g
    rw [← hone] at htable
    exact htable
  case recip =>
    have htable := Fmt.recipTable dA hA env
    split_ifs at htable ⊢
    · exact happroximate htable (by decide) (by decide)
    · exact happroximate htable (by decide) (by decide)
    · obtain ⟨m, e, hm, hr⟩ := htable
      show f.NearOutcome env _ (f.deliver env [x] (x.val.recip f)) A.negative
      rw [hr]
      exact Fmt.approximate_near hf env hm (hone _)
  case rsqrt =>
    have htable := Fmt.rsqrtTable dA hA env
    split_ifs at htable ⊢
    · exact happroximate htable (by decide) (by decide)
    · exact happroximate htable (by decide) (by decide)
    · exact happroximate htable (by decide) (by decide)
    · obtain ⟨m, e, hm, hr⟩ := htable
      show f.NearOutcome env _ (f.deliver env [x] (x.val.rsqrt f)) false
      rw [hr]
      exact Fmt.approximate_near hf env hm (hone _)

end Sys2Proof.Machine
end

section
/-! PROOFS. The bits of PSW and the counters that MPM holds down stay so (O15). -/
namespace Sys2Proof.Machine

/-! ### The protection bits of PSW (R852, R853) -/

/-- A PSW of allowed bits is legal. -/
theorem State.LevelLegal.of_allowed {s : State} {v : Word} (h : s.psw = v &&& s.pswAllowed) : s.LevelLegal := by
  have hbit (n : Nat) (hn : n < 32) : s.psw.getLsbD n = (v.getLsbD n && s.pswAllowed.getLsbD n) := by
    rw [h, BitVec.getLsbD_and]
  refine ⟨fun hmpe => ?_, fun haue => ?_⟩
  · rw [h, State.pswAllowed, hmpe]
    apply BitVec.eq_of_getLsbD_eq
    intro n hn
    simp only [BitVec.getLsbD_and, Bool.false_eq_true, if_false, BitVec.getLsbD_not, hn]
    cases protMask.getLsbD n <;> simp
  · rw [State.fNPV, hbit 18 (by decide), State.pswAllowed, haue]
    simp [bitAt]

/-- Legality is about the protection bits of PSW, MPM and where the product has its AUE. -/
theorem State.LevelLegal.congr {s t : State} (h : s.LevelLegal) (hpsw : t.psw &&& protMask = s.psw &&& protMask)
    (hmpm : t.prot.mpm = s.prot.mpm) (hcfg : t.cfg = s.cfg) : t.LevelLegal := by
  have hmpe : t.mpe = s.mpe := by rw [State.mpe, hmpm, State.mpe]
  have haue : t.aue = s.aue := by rw [State.aue, hmpm, hcfg, State.aue]
  have hnpv (w : Word) : (w &&& protMask).getLsbD 18 = w.getLsbD 18 := by simp [protMask]
  have hNPV : t.fNPV = s.fNPV := by rw [State.fNPV, State.fNPV, ← hnpv, hpsw, hnpv]
  obtain ⟨hlevel, htransition⟩ := h
  exact ⟨fun e => hpsw.trans (hlevel (hmpe ▸ e)), fun e => hNPV.trans (htransition (haue ▸ e))⟩

theorem State.levelLegal_putPsw (s : State) (v : Word) : (s.putPsw v).LevelLegal :=
  .of_allowed (s.putPsw_psw v)

/-- The arithmetic flags are no protection bits. -/
theorem protMask_of_flags {v w : Word} (h : w &&& ~~~flagsAll = v &&& ~~~flagsAll) :
    w &&& protMask = v &&& protMask := by
  have hmask : ~~~flagsAll &&& protMask = protMask := rfl
  rw [← hmask, ← BitVec.and_assoc, h, BitVec.and_assoc]

theorem State.levelLegal_enter (s : State) (e : Exc) (ret : Word) : (s.enter e ret).LevelLegal :=
  (State.levelLegal_putPsw (s.saveContext e ret) (s.excPsw e)).congr rfl rfl rfl

theorem State.levelLegal_writeMpm (s : State) (v : Word) : (s.writeMpm v).LevelLegal :=
  .of_allowed (s.writeMpm_psw v)

/-- A write to a system register but PSW and MPM leaves PSW, MPM and the counters. -/
theorem State.writeSys_level {r : SysReg} (hpsw : r ≠ .psw) (hmpm : r ≠ .mpm) (s : State) (v : Word) :
    (s.writeSys r v).psw = s.psw ∧ (s.writeSys r v).prot.mpm = s.prot.mpm ∧ (s.writeSys r v).tsu = s.tsu := by
  cases r with
  | psw => exact absurd rfl hpsw
  | mpm => exact absurd rfl hmpm
  | swCtl | mpc =>
    dsimp only [State.writeSys, State.writeMpc]
    split
    · exact ⟨rfl, rfl, rfl⟩
    · exact ⟨rfl, rfl, rfl⟩
  | _ => exact ⟨rfl, rfl, rfl⟩

/-- A violation is recorded in registers other than MPM. -/
theorem State.sysViolation_mpm (s : State) : s.sysViolation.prot.mpm = s.prot.mpm := by
  unfold State.sysViolation
  dsimp only
  split <;> rfl

theorem State.LevelLegal.loadSys {s : State} (h : s.LevelLegal) (n : BitVec 5) (v : Word) :
    (s.loadSys n v).LevelLegal := by
  unfold State.loadSys
  split
  · exact h.congr rfl s.sysViolation_mpm rfl
  · by_cases hpsw : s.sysReg n = .psw
    · rw [hpsw]
      exact s.levelLegal_putPsw _
    · by_cases hmpm : s.sysReg n = .mpm
      · rw [hmpm]
        exact s.levelLegal_writeMpm v
      · obtain ⟨hw, hm, -⟩ := State.writeSys_level hpsw hmpm s v
        exact h.congr (by rw [hw]) hm (s.writeSys_cfg _ v)

theorem State.LevelLegal.writeByte {s : State} (h : s.LevelLegal) (a : Word) (b : Byte) :
    (s.writeByte a b).Keeps State.LevelLegal := by
  cases hx : s.writeByte a b with
  | ok u t =>
    obtain ⟨m, ts, p, rfl, -⟩ := State.writeByte_ok hx
    exact h
  | trap t => exact absurd hx (State.writeByte_not_trap _ _ _ _)
  | refused r => trivial

theorem State.levelLegal_resetFrom (s : State) : s.resetFrom.LevelLegal :=
  have hprot : (0x20 : Word) &&& protMask = 0 := rfl
  have hnpv : (0x20 : Word).getLsbD 18 = false := rfl
  ⟨fun _ => hprot, fun _ => hnpv⟩

/-- Every write of PSW as a whole and of MPM makes it legal; nothing else touches its protection bits. -/
theorem levelLegal_stepKept : StepKept State.LevelLegal where
  regs _ h := h
  setPc _ h := h
  flags hw h := h.congr (protMask_of_flags hw) rfl rfl
  free _ h := h
  fpu _ h := h
  ppu _ h := h
  halted _ h := h
  writeByte a b h := h.writeByte a b
  violation _ _ h := h
  enter e ret _ := State.levelLegal_enter _ e ret
  link _ h := h
  putId _ _ := State.levelLegal_putPsw _ _
  environment _ _ h := h
  reports _ h := h
  resetFrom _ := State.levelLegal_resetFrom _
  tick _ h := h
  tsi h := h
  putPsw v _ := State.levelLegal_putPsw _ v
  tsuLeave _ h := h
  loadSys n v h := h.loadSys n v

/-! ### Counters that do not operate (R852) -/

/-- No counter of the unit operates. -/
def TsuRegs.Idle (t : TsuRegs) : Prop := ∀ c ∈ t.counters.toList, c.act = false

theorem TsuRegs.idle_iff (t : TsuRegs) : t.Idle ↔ ∀ k : Fin 6, (t.counters.get k).act = false := by
  simp only [TsuRegs.Idle, Vector.mem_toList_iff, Vector.mem_iff_getElem]
  constructor
  · exact fun h k => h _ ⟨k.val, k.isLt, rfl⟩
  · rintro h _ ⟨k, hk, rfl⟩
    exact h ⟨k, hk⟩

/-- A change of every counter that starts none. -/
theorem TsuRegs.Idle.each {t : TsuRegs} (h : t.Idle) {f : Counter → Counter}
    (hf : ∀ c : Counter, c.act = false → (f c).act = false) : (t.each f).Idle := by
  rw [TsuRegs.idle_iff] at h ⊢
  intro k
  have hget : (t.each f).counters.get k = f (t.counters.get k) := Vector.getElem_map _ k.isLt
  rw [hget]
  exact hf _ (h k)

/-- A change of one counter that does not start it. -/
theorem TsuRegs.Idle.modify {t : TsuRegs} (h : t.Idle) {f : Counter → Counter}
    (hf : ∀ c : Counter, c.act = false → (f c).act = false) (n : Nat) : (t.modify n f).Idle := by
  by_cases hn : n < 6
  · rw [TsuRegs.idle_iff] at h ⊢
    intro k
    rw [t.modify_get ⟨n, hn⟩ k f]
    split
    · exact hf _ (h _)
    · exact h k
  · rwa [TsuRegs.modify, dif_neg hn]

/-- ACT after a bit of TSCCFGn is written. -/
theorem Counter.act_putCfg (c : Counter) (n : Nat) (b : Bool) :
    (c.putCfg n b).act = if n = 0 then b else c.act := by
  simp [Counter.act, Counter.putCfg, getElem_putBit, eq_comm]

theorem Counter.act_idChange (c : Counter) (new : Bool) (h : c.act = false) : (c.idChange false new).act = false := by
  unfold Counter.idChange
  split
  · cases new
    · exact c.act_putCfg_false
    · exact c.act_putCfg_false
  · exact h

theorem Counter.act_enterEi (c : Counter) (h : c.act = false) : c.enterEi.act = false := by
  unfold Counter.enterEi
  split
  · exact Counter.act_putCfg_false _
  · exact h

theorem Counter.act_enterFe (c : Counter) (h : c.act = false) : c.enterFe.act = false := by
  unfold Counter.enterFe
  split
  · exact Counter.act_putCfg_false _
  · exact h

theorem Counter.act_leaveEi (c : Counter) (h : c.act = false) : (c.leaveEi false).act = false := by
  rw [Counter.leaveEi, Bool.and_false]
  split
  · exact Counter.act_putCfg_false _
  · exact h

theorem Counter.act_leaveFe (c : Counter) (h : c.act = false) : (c.leaveFe false).act = false := by
  rw [Counter.leaveFe, Bool.and_false]
  split
  · exact Counter.act_putCfg_false _
  · exact h

theorem Counter.act_acknowledge (c : Counter) : c.acknowledge.act = c.act := by
  unfold Counter.acknowledge
  split
  · simp [Counter.act_putCfg]
  · rfl

/-- With MPE = 0 a write to TSCCFGn leaves ACT at 0 (R852). -/
theorem Counter.act_writeCfg (lane v : Word) (c : Counter) : (c.writeCfg false lane v).act = false := by
  simp [Counter.writeCfg_eq, Counter.act, Counter.cfgAfter]

theorem TsuRegs.Idle.write {t : TsuRegs} (h : t.Idle) (off : Nat) (lane v : Word) :
    (t.write false off lane v).Idle := by
  unfold TsuRegs.write
  split
  · exact h
  · split
    · rw [TsuRegs.idle_iff] at h ⊢
      intro k
      have hget : (t.writeTsecr lane v).counters.get k =
          if lane.getLsbD k.val && !v.getLsbD k.val then (t.counters.get k).putCfg 9 false else t.counters.get k :=
        Vector.getElem_mapIdx k.isLt
      rw [hget]
      split
      · rw [Counter.act_putCfg]
        exact h k
      · exact h k
    · split
      · exact h
      · refine h.modify (fun c hc => ?_) _
        rcases off / 4 % 4 with _ | _ | _ | _
        · exact c.act_writeCfg lane v
        · exact hc
        · exact hc
        · exact Counter.act_writeCfg _ _ _

/-- Legality of the counters is about MPM and the unit. -/
theorem State.CountersLegal.congr {s t : State} (h : s.CountersLegal) (hmpm : t.prot.mpm = s.prot.mpm)
    (htsu : s.mpe = false → s.tsu.Idle → t.tsu.Idle) : t.CountersLegal := by
  have hmpe : t.mpe = s.mpe := by rw [State.mpe, hmpm, State.mpe]
  intro e
  rw [hmpe] at e
  exact htsu e (h e)

theorem State.CountersLegal.putPsw {s : State} (h : s.CountersLegal) (v : Word) : (s.putPsw v).CountersLegal := by
  refine h.congr rfl fun hmpe hidle => ?_
  have htsu : (s.putPsw v).tsu = s.tsu.idChange s.mpe s.fID ((s.putPsw v).psw.getLsbD 5) := rfl
  rw [htsu, hmpe, TsuRegs.idChange]
  split
  · exact hidle
  · exact hidle.each fun c => c.act_idChange _

theorem State.CountersLegal.tsuEnter {s : State} (h : s.CountersLegal) (l : Level) : (s.tsuEnter l).CountersLegal := by
  refine h.congr rfl fun _ hidle => ?_
  cases l with
  | ei => exact hidle.each Counter.act_enterEi
  | fe => exact hidle.each Counter.act_enterFe

theorem State.CountersLegal.enter {s : State} (h : s.CountersLegal) (e : Exc) (ret : Word) :
    (s.enter e ret).CountersLegal := by
  have hsave : (s.saveContext e ret).CountersLegal := h.congr (by simp) fun _ hidle => by simpa using hidle
  exact (hsave.putPsw _).tsuEnter _

theorem State.CountersLegal.tsuLeave {s : State} (h : s.CountersLegal) (l : Level) :
    (s.tsuLeave l).CountersLegal := by
  refine h.congr rfl fun hmpe hidle => ?_
  unfold State.tsuLeave
  rw [hmpe]
  cases l with
  | ei => exact hidle.each Counter.act_leaveEi
  | fe => exact hidle.each Counter.act_leaveFe

theorem State.CountersLegal.loadSys {s : State} (h : s.CountersLegal) (n : BitVec 5) (v : Word) :
    (s.loadSys n v).CountersLegal := by
  unfold State.loadSys
  split
  · exact h.congr s.sysViolation_mpm fun _ hidle => hidle
  · by_cases hpsw : s.sysReg n = .psw
    · rw [hpsw]
      exact h.putPsw _
    · by_cases hmpm : s.sysReg n = .mpm
      · rw [hmpm]
        exact State.writeMpm_act
      · obtain ⟨-, hm, ht⟩ := State.writeSys_level hpsw hmpm s v
        exact h.congr hm fun _ hidle => by rwa [ht]

theorem State.CountersLegal.writeByte {s : State} (h : s.CountersLegal) (a : Word) (b : Byte) :
    (s.writeByte a b).Keeps State.CountersLegal := by
  unfold State.writeByte
  split
  · exact h
  · refine h.congr rfl fun hmpe hidle => ?_
    rw [hmpe]
    exact hidle.write _ _ _
  · exact h
  · trivial
  · exact h

theorem State.CountersLegal.tick {s : State} (h : s.CountersLegal) (e : Ext) : (s.tick e).CountersLegal := by
  refine h.congr rfl fun _ hidle => ?_
  rw [TsuRegs.idle_iff] at hidle ⊢
  intro k
  rw [State.tick_counter, Counter.tick_stopped _ (hidle k)]
  exact hidle k

theorem State.countersLegal_resetFrom (s : State) : s.resetFrom.CountersLegal := by
  intro _ c hc
  obtain ⟨-, rfl⟩ := List.mem_replicate.1 (show c ∈ List.replicate 6 _ from hc)
  rfl

/-- With MPE = 0 whatever writes ACT writes 0. -/
theorem countersLegal_stepKept : StepKept State.CountersLegal where
  regs _ h := h
  setPc _ h := h
  flags _ h := h
  free _ h := h
  fpu _ h := h
  ppu _ h := h
  halted _ h := h
  writeByte a b h := h.writeByte a b
  violation _ _ h := h
  enter e ret h := h.enter e ret
  link _ h := h
  putId _ h := h.putPsw _
  environment _ _ h := h
  reports _ h := h
  resetFrom _ := State.countersLegal_resetFrom _
  tick e h := h.tick e
  tsi h := h.congr rfl fun _ hidle => hidle.each fun c hc => c.act_acknowledge.trans hc
  putPsw v h := h.putPsw v
  tsuLeave l h := h.tsuLeave l
  loadSys n v h := h.loadSys n v

/-- Settles O15: each of the two invariants is kept by every operation of a step. -/
theorem masterEnableStays : Obligations.MasterEnableStays := by
  intro s t hlevel hcounters hstep
  exact ⟨(levelLegal_stepKept.step hlevel).of_eq hstep, (countersLegal_stepKept.step hcounters).of_eq hstep⟩

end Sys2Proof.Machine
end

section
/-! PROOFS. What NPV guards: the protection set-up (O16), a blocked LDSR (O18), and how NPV itself is left (O17). -/
namespace Sys2Proof.Machine

/-! ### The protection set-up (R862) -/

/-- The registers of the protection set-up are the same. -/
def SameSetUp (s t : State) : Prop :=
  t.prot.mpm = s.prot.mpm ∧ t.prot.tid = s.prot.tid ∧ t.prot.ipa = s.prot.ipa ∧ t.prot.dpa = s.prot.dpa ∧
    t.prot.mca = s.prot.mca ∧ t.prot.mcs = s.prot.mcs ∧ t.main.ehBase = s.main.ehBase ∧
    t.main.ehCfg = s.main.ehCfg ∧ t.main.sccfg = s.main.sccfg ∧ t.main.scbp = s.main.scbp ∧ t.main.bsel = s.main.bsel

theorem SameSetUp.refl (s : State) : SameSetUp s s := ⟨rfl, rfl, rfl, rfl, rfl, rfl, rfl, rfl, rfl, rfl, rfl⟩

/-- An exception writes the save registers and causes of its level only (R1014). -/
theorem SameSetUp.saveContext {s t : State} (h : SameSetUp s t) (e : Exc) (ret : Word) :
    SameSetUp s (t.saveContext e ret) := by
  unfold State.saveContext
  split
  · exact h
  · exact h

theorem SameSetUp.writeByte {s t : State} (h : SameSetUp s t) (a : Word) (b : Byte) :
    (t.writeByte a b).Keeps (SameSetUp s) := by
  cases hx : t.writeByte a b with
  | ok u t' =>
    obtain ⟨m, ts, p, rfl, -⟩ := State.writeByte_ok hx
    exact h
  | trap t' => exact absurd hx (State.writeByte_not_trap _ _ _ _)
  | refused r => trivial

/-- No operation that instructions but LDSR are made of writes the set-up. -/
theorem sameSetUp_kept (s : State) : Kept (SameSetUp s) where
  regs _ h := h
  setPc _ h := h
  flags _ h := h
  free _ h := h
  fpu _ h := h
  ppu _ h := h
  halted _ h := h
  writeByte a b h := h.writeByte a b
  violation _ _ h := h
  enter e ret h := h.saveContext e ret
  link _ h := h
  putId _ h := h

/-- The record of a violation is no part of the set-up. -/
theorem SameSetUp.sysViolation (s : State) : SameSetUp s s.sysViolation := by
  unfold State.sysViolation
  dsimp only
  split <;> exact SameSetUp.refl s

/-- The registers that NPV does not protect are no part of the set-up. -/
theorem SameSetUp.writeSys {r : SysReg} (h : r.isProtected = false) (s : State) (v : Word) :
    SameSetUp s (s.writeSys r v) := by
  cases r with
  | psw | ctbp | fpst | fpcc | fpcfg => exact SameSetUp.refl s
  | _ => cases h

theorem SameSetUp.loadSys {s : State} (hnpv : s.fNPV = true) (n : BitVec 5) (v : Word) :
    SameSetUp s (s.loadSys n v) := by
  unfold State.loadSys
  split
  · exact SameSetUp.sysViolation s
  · rename_i hblocked
    exact SameSetUp.writeSys (by simpa [hnpv] using hblocked) s v

theorem SameSetUp.reportEnd (s : State) : SameSetUp s s.reportEnd := by
  unfold State.reportEnd
  split <;> exact SameSetUp.refl s

/-- Settles O16: the returns write PSW, the counters and a report; LDSR with NPV = 1 writes no register of the set-up; every
other instruction is made of operations that do not. -/
theorem npvGuardsProtection : Obligations.NpvGuardsProtection := by
  intro i s t hexec hguard
  refine Ends.of_eq (P := SameSetUp s) ((sameSetUp_kept s).exec (SameSetUp.refl s) i fun hsys => ?_) hexec
  cases i with
  | ldsr r n =>
    rcases hguard with hnpv | hne
    · exact SameSetUp.loadSys hnpv n _
    · exact absurd rfl (hne r n)
  | ctret => exact SameSetUp.refl s
  | eiret | feret => exact SameSetUp.reportEnd s
  | reti =>
    dsimp only [exec, execReti]
    split <;> exact SameSetUp.reportEnd s
  | _ => cases hsys

/-! ### LDSR to a protected register (R861) -/

/-- The violation registers after a violation (R861). -/
theorem State.sysViolation_prot (s : State) :
    s.sysViolation.prot = { s.prot with
      vsecr := if s.prot.vsecr = 0xFF then 0xFF else s.prot.vsecr + 1
      vstid := if s.prot.vsecr = 0 then s.prot.tid else s.prot.vstid
      vsadr := if s.prot.vsecr = 0 then pcValue s.cfg s.pc else s.prot.vsadr } := by
  unfold State.sysViolation
  by_cases h : s.prot.vsecr = 0
  · simp only [if_pos h]
  · simp only [if_neg h]

/-- Settles O18: LDSR records the violation and moves on. -/
theorem blockedLdsr : Obligations.BlockedLdsr := by
  intro s r n hnpv hprotected
  have hload : s.loadSys n (s.reg r) = s.sysViolation := if_pos (by rw [hnpv, hprotected]; rfl)
  have hexec : exec (.ldsr r n) s = .next (s.sysViolation.advance 4) := by rw [exec, execLdsr, hload]
  refine ⟨_, hexec, ?_⟩
  dsimp only
  rw [State.advance_prot, State.sysViolation_prot]
  refine ⟨?count, rfl, rfl, ⟨_, _, _, rfl⟩, rfl, rfl, rfl, rfl, rfl, fun _ _ => State.reg_congr rfl _, fun _ => rfl, rfl⟩
  case count => split <;> rfl

end Sys2Proof.Machine
end

section
/-! PROOFS. NPV is left by an exception or a return only (O17): every other instruction keeps it, or takes its exception
with PSW as it was. -/
namespace Sys2Proof.Machine

variable {s t u : State}

/-- NPV is set, or an exception was taken from `s`: a save register holds its PSW. -/
def NpvOrSaved (s t : State) : Prop := t.fNPV = true ∨ t.main.eipsw = s.psw ∨ t.main.fepsw = s.psw

/-! ### What keeps NPV -/

theorem State.fNPV_congr (h : t.psw = s.psw) : t.fNPV = s.fNPV := by rw [State.fNPV, h, State.fNPV]

theorem State.fNPV_of_flags (h : t.psw &&& ~~~flagsAll = s.psw &&& ~~~flagsAll) : t.fNPV = s.fNPV := by
  have hbit (w : Word) : (w &&& ~~~flagsAll).getLsbD 18 = w.getLsbD 18 := by simp [flagsAll]
  rw [State.fNPV, State.fNPV, ← hbit, h, hbit]

@[simp] theorem State.fNPV_setReg (s : State) (r : Reg) (v : Word) : (s.setReg r v).fNPV = s.fNPV :=
  State.fNPV_congr (s.setReg_psw r v)

@[simp] theorem State.fNPV_setPair (s : State) (p : Pair) (v : DWord) : (s.setPair p v).fNPV = s.fNPV :=
  State.fNPV_congr (s.setPair_psw p v)

@[simp] theorem State.fNPV_setPc (s : State) (a : Word) : (s.setPc a).fNPV = s.fNPV := rfl

@[simp] theorem State.fNPV_advance (s : State) (n : Nat) : (s.advance n).fNPV = s.fNPV := rfl

@[simp] theorem State.fNPV_putFlags (s : State) (c o n z : Bool) : (s.putFlags c o n z).fNPV = s.fNPV :=
  State.fNPV_of_flags (s.psw_putFlags c o n z (~~~flagsAll) rfl)

@[simp] theorem State.fNPV_putArith (s : State) (f : Flagged) : (s.putArith f).fNPV = s.fNPV := s.fNPV_putFlags _ _ _ _

@[simp] theorem State.fNPV_putOSZ (s : State) (o n z : Bool) : (s.putOSZ o n z).fNPV = s.fNPV :=
  State.fNPV_of_flags (s.psw_putOSZ o n z (~~~flagsAll) rfl)

@[simp] theorem State.fNPV_putLogic (s : State) (v : Word) : (s.putLogic v).fNPV = s.fNPV := s.fNPV_putOSZ _ _ _

@[simp] theorem State.fNPV_putZ (s : State) (z : Bool) : (s.putZ z).fNPV = s.fNPV :=
  State.fNPV_of_flags (and_putBit _ _ 0 z rfl)

@[simp] theorem State.fNPV_putSat (s : State) (f : Flagged) : (s.putSat f).fNPV = s.fNPV := by
  have hflags := s.fNPV_putFlags f.cy f.ov (saturate f).msb (saturate f == 0)
  unfold State.putSat
  dsimp only
  split
  · exact (State.fNPV_of_flags (and_putBit _ _ 4 true rfl)).trans hflags
  · exact hflags

@[simp] theorem State.fNPV_putQuotient (s : State) (r2 : Reg) (r3 : Option Reg) (q m : Word) :
    (s.putQuotient r2 r3 q m).fNPV = s.fNPV := State.fNPV_congr (s.putQuotient_psw r2 r3 q m)

/-! ### The shapes of instructions that take no exception -/

theorem State.fNPV_move (s : State) (dst : Reg) (v : Word) (len : Nat) : (s.move dst v len).fNPV = s.fNPV := by
  simp [State.move]

theorem State.fNPV_arith (s : State) (dst : Reg) (f : Flagged) (len : Nat) : (s.arith dst f len).fNPV = s.fNPV := by
  simp [State.arith]

theorem State.fNPV_compare (s : State) (f : Flagged) (len : Nat) : (s.compare f len).fNPV = s.fNPV := by
  simp [State.compare]

theorem State.fNPV_saturated (s : State) (dst : Reg) (f : Flagged) (len : Nat) :
    (s.saturated dst f len).fNPV = s.fNPV := by
  simp [State.saturated]

theorem State.fNPV_logical (s : State) (dst : Reg) (r : Word) (len : Nat) : (s.logical dst r len).fNPV = s.fNPV := by
  simp [State.logical]

theorem State.fNPV_product (s : State) (r2 r3 : Reg) (p : DWord) : (s.product r2 r3 p).fNPV = s.fNPV := by
  simp [State.product]

theorem State.fNPV_shifted (s : State) (dst : Reg) (c : Carried) (len : Nat) :
    (s.shifted dst c len).fNPV = s.fNPV := by
  simp [State.shifted]

theorem State.fNPV_swapped (s : State) (dst : Reg) (r : Word) (cy z : Bool) :
    (s.swapped dst r cy z).fNPV = s.fNPV := by
  simp [State.swapped]

theorem State.fNPV_searched (s : State) (dst : Reg) (n : Option Nat) : (s.searched dst n).fNPV = s.fNPV := by
  cases n <;> simp [State.searched]

theorem State.fNPV_compareMove (s : State) (f : Flagged) (dst : Reg) (v : Word) :
    (s.compareMove f dst v).fNPV = s.fNPV := by
  simp [State.compareMove]

theorem State.fNPV_divide (s : State) (signed : Bool) (n d : Int) (r2 : Reg) (r3 : Option Reg) (len : Nat) :
    (s.divide signed n d r2 r3 len).fNPV = s.fNPV := by
  unfold State.divide
  dsimp only
  split
  · exact (State.fNPV_putQuotient _ _ _ _ _).trans (s.fNPV_putOSZ _ _ _)
  · split
    · exact (State.fNPV_putQuotient _ _ _ _ _).trans (s.fNPV_putOSZ _ _ _)
    · exact (State.fNPV_putQuotient _ _ _ _ _).trans (s.fNPV_putOSZ _ _ _)

/-- A PSW written as a whole has NPV set if the value has, in a legal state with NPV set: both MPE and AUE are 1. -/
theorem State.LevelLegal.fNPV_putPsw (h : s.LevelLegal) (hnpv : s.fNPV = true) {v : Word}
    (hv : v.getLsbD 18 = true) : (s.putPsw v).fNPV = true := by
  obtain ⟨hlevel, htransition⟩ := h
  have hprot : protMask.getLsbD 18 = true := rfl
  have hmpe : s.mpe = true := by
    by_contra hoff
    have hbits := congrArg (fun w : Word => w.getLsbD 18) (hlevel (by simpa using hoff))
    rw [BitVec.getLsbD_and, hprot, show s.psw.getLsbD 18 = true from hnpv] at hbits
    cases hbits
  have haue : s.aue = true := by
    by_contra hoff
    rw [htransition (by simpa using hoff)] at hnpv
    cases hnpv
  have hmask : pswMask.getLsbD 18 = true := rfl
  rw [State.fNPV, State.putPsw_bit _ _ _ (by decide), hv, hmask, hmpe, haue]
  rfl

/-! ### Exceptions -/

/-- Entering an exception saves PSW in one of the two pairs (R1014). -/
theorem NpvOrSaved.enter (h : u.psw = s.psw) (e : Exc) (ret : Word) : NpvOrSaved s (u.enter e ret) := by
  cases hlevel : e.level with
  | ei => exact .inr (.inl (by rw [State.enter_main_ei _ _ _ hlevel]; exact h))
  | fe => exact .inr (.inr (by rw [State.enter_main_fe _ _ _ hlevel]; exact h))

theorem NpvOrSaved.takeException (h : u.psw = s.psw) (e : Exc) (ret : Word) :
    NpvOrSaved s (u.takeException e ret) := NpvOrSaved.enter h e ret

theorem NpvOrSaved.raiseMdp (h : u.psw = s.psw) (a c : Word) : NpvOrSaved s (u.raiseMdp a c) := by
  unfold State.raiseMdp
  exact NpvOrSaved.takeException (by exact h) _ _

/-- Without an FPU a floating-point instruction takes an exception (R654). -/
theorem NpvOrSaved.withFpu (h : NpvOrSaved s t) (c : FpClass) : Ends (NpvOrSaved s) (s.withFpu c t) := by
  unfold State.withFpu
  split
  · exact h
  · exact NpvOrSaved.takeException rfl _ _

/-- SYSCALL saves PSW, whatever its table entry holds (R614). -/
theorem NpvOrSaved.syscall (s : State) (v : BitVec 8) : Ends (NpvOrSaved s) (exec (.syscall v) s) := by
  dsimp only [exec, execSyscall]
  have hentered := NpvOrSaved.enter (rfl : s.psw = s.psw) (.syscall v) (s.pc + 4)
  refine Acc.Keeps.finish (P := NpvOrSaved s) ?_ fun _ _ ht => ht
  cases hx : (s.enter (.syscall v) (s.pc + 4)).readBytes _ 4 with
  | ok w t =>
    obtain ⟨k, rfl⟩ := State.readBytes_ok hx
    exact hentered
  | trap t => exact absurd hx (State.readBytes_not_trap _ _ _ _)
  | refused r => trivial

/-! ### Accesses -/

/-- The access leaves PSW as it was in `s`, or takes an exception with it. -/
def Acc.TrapsFrom {α : Type} (s : State) : Acc α → Prop
  | .ok _ t => t.psw = s.psw
  | .trap t => NpvOrSaved s t
  | .refused _ => True

theorem Acc.TrapsFrom.finish {α : Type} {x : Acc α} {f : α → State → State} (hx : x.TrapsFrom s)
    (hf : ∀ a t, t.psw = s.psw → NpvOrSaved s (f a t)) : Ends (NpvOrSaved s) (x.finish f) := by
  cases x with
  | ok a t => exact hf a t hx
  | trap t => exact hx
  | refused r => trivial

theorem State.loadAs_trapsFrom (s : State) (a : Word) (n : Nat) (sp : Bool) (ext : Word → Word) :
    (s.loadAs a n sp ext).TrapsFrom s := by
  cases hx : s.loadAs a n sp ext with
  | ok v t =>
    obtain ⟨p, j, rfl⟩ := State.loadAs_ok hx
    rfl
  | trap t =>
    obtain ⟨-, rfl⟩ := State.loadAs_trap hx
    exact NpvOrSaved.raiseMdp rfl _ _
  | refused r => trivial

theorem State.store_trapsFrom (s : State) (a v : Word) (n : Nat) (sp : Bool) : (s.store a v n sp).TrapsFrom s := by
  cases hx : s.store a v n sp with
  | ok w t =>
    obtain ⟨m, ts, p, rfl, -⟩ := State.store_ok hx
    rfl
  | trap t =>
    obtain ⟨-, rfl⟩ := State.store_trap hx
    exact NpvOrSaved.raiseMdp rfl _ _
  | refused r => trivial

theorem State.modify_trapsFrom (s : State) (a : Word) (n : Nat) (sp : Bool) (f : Word → Word) :
    (s.modify a n sp f).TrapsFrom s := by
  cases hx : s.modify a n sp f with
  | ok w t =>
    obtain ⟨m, ts, p, k, rfl, -⟩ := State.modify_ok hx
    rfl
  | trap t =>
    obtain ⟨-, rfl⟩ := State.modify_trap hx
    exact NpvOrSaved.raiseMdp rfl _ _
  | refused r => trivial

theorem State.pushRegs_trapsFrom (s : State) (a : Word) (rs : List Reg) : (s.pushRegs a rs).TrapsFrom s := by
  cases hx : s.pushRegs a rs with
  | ok w t =>
    obtain ⟨m, ts, p, rfl, -⟩ := State.pushRegs_ok hx
    rfl
  | trap t =>
    obtain ⟨m, ts, p, b, c, rfl, -⟩ := State.pushRegs_trap hx
    exact NpvOrSaved.raiseMdp (by rfl) _ _
  | refused r => trivial

theorem State.popRegs_trapsFrom (s : State) (a : Word) (rs : List Reg) : (s.popRegs a rs).TrapsFrom s := by
  cases hx : s.popRegs a rs with
  | ok w t =>
    obtain ⟨g, p, k, rfl⟩ := State.popRegs_ok hx
    rfl
  | trap t =>
    obtain ⟨g, p, k, b, c, rfl⟩ := State.popRegs_trap hx
    exact NpvOrSaved.raiseMdp (by rfl) _ _
  | refused r => trivial

/-! ### The shapes of instructions that may take an exception -/

section
variable (hnpv : s.fNPV = true)
include hnpv

theorem NpvOrSaved.of_fNPV (h : t.fNPV = s.fNPV) : NpvOrSaved s t := .inl (h.trans hnpv)

/-- What follows an access that was done keeps NPV. -/
theorem NpvOrSaved.after (hu : u.psw = s.psw) (h : t.fNPV = u.fNPV) : NpvOrSaved s t :=
  NpvOrSaved.of_fNPV hnpv (h.trans (State.fNPV_congr hu))

theorem State.loadInto_npv (a : Word) (n : Nat) (sp : Bool) (ext : Word → Word) (dst : Reg) (len : Nat) :
    Ends (NpvOrSaved s) (s.loadInto a n sp ext dst len) :=
  (s.loadAs_trapsFrom a n sp ext).finish fun v t ht => .after hnpv ht (t.fNPV_move dst v len)

theorem State.storeFrom_npv (a v : Word) (n : Nat) (sp : Bool) (len : Nat) :
    Ends (NpvOrSaved s) (s.storeFrom a v n sp len) :=
  (s.store_trapsFrom a v n sp).finish fun _ t ht => .after hnpv ht (t.fNPV_advance len)

theorem State.bitModify_npv (a : Word) (sp : Bool) (n : Nat) (f : Word → Word) :
    Ends (NpvOrSaved s) (s.bitModify a sp n f) := by
  refine (s.modify_trapsFrom a 1 sp f).finish fun v t ht => .after hnpv ht ?_
  rw [State.fNPV_advance]
  split
  · exact t.fNPV_putZ _
  · rfl

theorem State.bitTest_npv (a : Word) (sp : Bool) (n : Nat) : Ends (NpvOrSaved s) (s.bitTest a sp n) :=
  (s.loadAs_trapsFrom a 1 sp id).finish fun _ t ht => .after hnpv ht (t.fNPV_putZ _)

theorem State.prepared_npv (list : BitVec 12) (imm5 : BitVec 5) {f : State → State} (hf : ∀ t, (f t).fNPV = t.fNPV) :
    Ends (NpvOrSaved s) (s.prepared list imm5 f) := by
  unfold State.prepared
  dsimp only
  split
  · exact (s.pushRegs_trapsFrom _ _).finish fun _ _ ht => .after hnpv ht rfl
  · exact (s.pushRegs_trapsFrom _ _).finish fun _ t ht => .after hnpv ht ((hf _).trans (t.fNPV_setReg _ _))

theorem State.disposed_npv (list : BitVec 12) (imm5 : BitVec 5) {f : State → State} (hf : ∀ t, (f t).fNPV = t.fNPV) :
    Ends (NpvOrSaved s) (s.disposed list imm5 f) := by
  unfold State.disposed
  dsimp only
  split
  · exact (s.popRegs_trapsFrom _ _).finish fun _ _ ht => .after hnpv ht rfl
  · exact (s.popRegs_trapsFrom _ _).finish fun _ t ht => .after hnpv ht ((hf _).trans (t.fNPV_setReg _ _))

theorem State.fpException_npv (hu : u.psw = s.psw) (c : FpClass) (det : Det) : NpvOrSaved s (u.fpException c det) := by
  unfold State.fpException
  dsimp only
  split
  · exact NpvOrSaved.takeException (by exact hu) _ _
  · exact .after hnpv hu rfl

theorem State.fpComplete_npv (hu : u.psw = s.psw) (c : FpClass) (det : Det) {write : State → State}
    (hw : ∀ t, (write t).psw = t.psw) : NpvOrSaved s (u.fpComplete c det write) := by
  unfold State.fpComplete
  split
  · exact State.fpException_npv hnpv hu c det
  · exact .after hnpv hu (State.fNPV_congr (hw _))

theorem State.fpRun_npv (c : FpClass) (listed : Det) (f : FpEnv → FpOut) {write : DWord → State → State}
    (hw : ∀ v t, (write v t).psw = t.psw) : Ends (NpvOrSaved s) (s.fpRun c listed f write) := by
  refine NpvOrSaved.withFpu ?_ c
  split
  · exact .of_fNPV hnpv rfl
  · exact State.fpComplete_npv hnpv (by rfl) c _ (hw _)

/-- LDSR with NPV = 1 can write PSW's flags, and no other register that holds NPV down (R861, R863). -/
theorem State.loadSys_npv (hlegal : s.LevelLegal) (n : BitVec 5) (v : Word) : (s.loadSys n v).fNPV = true := by
  unfold State.loadSys
  split
  · exact hnpv
  · rename_i hblocked
    have hopen : (s.sysReg n).isProtected = false := by simpa [hnpv] using hblocked
    cases hr : s.sysReg n with
    | psw =>
      refine hlegal.fNPV_putPsw hnpv ?_
      have hbit : s.psw.getLsbD 18 = true := hnpv
      rw [if_pos hnpv, BitVec.getLsbD_or, BitVec.getLsbD_and, BitVec.getLsbD_and, hbit]
      rfl
    | ctbp | fpst | fpcc | fpcfg => exact hnpv
    | _ => rw [hr] at hopen; cases hopen

/-- DI and EI write ID alone. -/
theorem State.putId_npv (hlegal : s.LevelLegal) (b : Bool) : (s.putPsw (putBit s.psw 5 b)).fNPV = true := by
  refine hlegal.fNPV_putPsw hnpv ?_
  rw [getLsbD_putBit _ _ _ _ (by decide), if_neg (by decide)]
  exact hnpv

end

/-- The instructions that return from a handler or a subroutine (R605, R583). -/
def isReturn : Instr → Bool
  | .ctret | .eiret | .feret | .reti => true
  | _ => false

/-- Every instruction but a return keeps NPV, or takes its exception with PSW as it was. The cases go by the operation
that an instruction ends in. -/
theorem exec_npvOrSaved (hlegal : s.LevelLegal) (hnpv : s.fNPV = true) (i : Instr) (hreturn : isReturn i = false) :
    Ends (NpvOrSaved s) (exec i s) := by
  cases i with
  | ctret | eiret | feret | reti => cases hreturn
  | ldsr r n => exact .inl (State.loadSys_npv hnpv hlegal n _)
  | di => exact .inl (State.putId_npv hnpv hlegal true)
  | ei => exact .inl (State.putId_npv hnpv hlegal false)
  | nop | synce | syncm | syncp | halt => exact .of_fNPV hnpv rfl
  | mov | movImm5 | movImm32 | movea | movhi | mulh | mulhImm5 | mulhi | cmov | cmovImm5 | sasf | setf | sxb | sxh | zxb
  | zxh => exact .of_fNPV hnpv (s.fNPV_move _ _ _)
  | add | addImm5 | addi | adf | sub | subr | sbf => exact .of_fNPV hnpv (s.fNPV_arith _ _ _)
  | cmp | cmpImm5 => exact .of_fNPV hnpv (s.fNPV_compare _ _)
  | mul | mulu | mulImm9 | muluImm9 => exact .of_fNPV hnpv (s.fNPV_product _ _ _)
  | mac | macu => exact .of_fNPV hnpv (s.fNPV_setPair _ _)
  | satadd | sataddImm5 | satadd3 | satsub | satsub3 | satsubi | satsubr =>
    exact .of_fNPV hnpv (s.fNPV_saturated _ _ _)
  | and | andi | not | or | ori | xor | xori => exact .of_fNPV hnpv (s.fNPV_logical _ _ _)
  | tst => exact .of_fNPV hnpv (s.fNPV_putLogic _)
  | shr | shrImm5 | shr3 | sar | sarImm5 | sar3 | shl | shlImm5 | shl3 => exact .of_fNPV hnpv (s.fNPV_shifted _ _ _)
  | bsw | bsh | hsw | hsh => exact .of_fNPV hnpv (s.fNPV_swapped _ _ _ _)
  | sch0l | sch0r | sch1l | sch1r => exact .of_fNPV hnpv (s.fNPV_searched _ _)
  | div | divhReg | divh | divhu | divu | divq | divqu => exact .of_fNPV hnpv (s.fNPV_divide _ _ _ _ _ _)
  | jmp | jmp32 | jr22 | jr32 => exact .of_fNPV hnpv rfl
  | jarl22 | jarl32 => exact .of_fNPV hnpv (s.fNPV_setReg _ _)
  | bcond =>
    dsimp only [exec, execBcond]
    split <;> exact .of_fNPV hnpv rfl
  | stsr =>
    dsimp only [exec, execStsr]
    refine .of_fNPV hnpv ((State.fNPV_move _ _ _ _).trans ?_)
    split <;> rfl
  | ldB | ldBu | ldH | ldHu | ldW | ldB23 | ldBu23 | ldH23 | ldHu23 | ldW23 | sldB | sldBu | sldH | sldHu | sldW =>
    exact State.loadInto_npv hnpv _ _ _ _ _ _
  | stB | stB23 | stH | stH23 | stW | stW23 | sstB | sstH | sstW => exact State.storeFrom_npv hnpv _ _ _ _ _
  | clr1 | clr1Reg | not1 | not1Reg | set1 | set1Reg => exact State.bitModify_npv hnpv _ _ _ _
  | tst1 | tst1Reg => exact State.bitTest_npv hnpv _ _ _
  | caxi =>
    exact (s.modify_trapsFrom _ _ _ _).finish fun _ t ht => .after hnpv ht (t.fNPV_compareMove _ _ _)
  | callt | switch => exact (s.loadAs_trapsFrom _ _ _ id).finish fun _ _ ht => .after hnpv ht rfl
  | prepare => exact State.prepared_npv hnpv _ _ fun t => t.fNPV_advance 4
  | prepareSp => exact State.prepared_npv hnpv _ _ fun t => t.fNPV_move epReg (t.reg spReg) 4
  | prepareImm16 | prepareImm16Shl | prepareImm32 =>
    exact State.prepared_npv hnpv _ _ fun t => t.fNPV_move _ _ _
  | dispose => exact State.disposed_npv hnpv _ _ fun t => t.fNPV_advance 4
  | disposeJmp _ _ reg1 => exact State.disposed_npv hnpv _ _ fun t => t.fNPV_setPc (t.reg reg1)
  | rie | rieImm | trap | fetrap => exact NpvOrSaved.takeException rfl _ _
  | syscall v => exact NpvOrSaved.syscall s v
  | trfsr =>
    dsimp only [exec, execTrfsr]
    refine NpvOrSaved.withFpu (.of_fNPV hnpv ?_) _
    rw [State.fNPV_advance, State.fNPV_putZ]
  | cmovfD =>
    dsimp only [exec, execCmovfD]
    refine NpvOrSaved.withFpu (.of_fNPV hnpv ?_) _
    rw [State.fNPV_advance]
    split
    · rfl
    · exact s.fNPV_setPair _ _
  | cmovfS =>
    dsimp only [exec, execCmovfS]
    refine NpvOrSaved.withFpu (.of_fNPV hnpv ?_) _
    rw [State.fNPV_advance]
    split
    · rfl
    · exact s.fNPV_setReg _ _
  | cmpfD | cmpfS =>
    dsimp only [exec]
    exact State.fpRun_npv hnpv _ _ _ (toCc_psw _)
  | absfS | addfS | subfS | mulfS | divfS | maxfS | minfS | negfS | sqrtfS | recipfS | rsqrtfS | maddfS | msubfS
  | nmaddfS | nmsubfS | ceilfDuw | ceilfDw | ceilfSuw | ceilfSw | floorfDuw | floorfDw | floorfSuw | floorfSw | trncfDuw | trncfDw
  | trncfSuw | trncfSw | cvtfDs | cvtfDuw | cvtfDw | cvtfLs | cvtfSuw | cvtfSw | cvtfUls | cvtfUws | cvtfWs =>
    dsimp only [exec]
    exact State.fpRun_npv hnpv _ _ _ (toReg_psw _)
  | absfD | addfD | subfD | mulfD | divfD | maxfD | minfD | negfD | sqrtfD | recipfD | rsqrtfD | ceilfDl | ceilfDul
  | ceilfSl | ceilfSul | floorfDl | floorfDul | floorfSl | floorfSul | trncfDl | trncfDul | trncfSl | trncfSul | cvtfDl
  | cvtfDul | cvtfLd | cvtfSd | cvtfSl | cvtfSul | cvtfUld | cvtfUwd | cvtfWd =>
    dsimp only [exec]
    exact State.fpRun_npv hnpv _ _ _ (toPair_psw _)

/-- Settles O17: an instruction that leaves NPV and is no return has saved the PSW. -/
theorem npvLeavesByExceptionOrReturn : Obligations.NpvLeavesByExceptionOrReturn := by
  intro i s t hlegal hexec hnpv hleft
  cases hreturn : isReturn i with
  | true =>
    cases i with
    | ctret | eiret | feret | reti => simp
    | _ => cases hreturn
  | false =>
    rcases (exec_npvOrSaved hlegal hnpv i hreturn).of_eq hexec with hkept | hsaved
    · rw [hleft] at hkept
      cases hkept
    · exact .inr (.inr (.inr (.inr hsaved)))

end Sys2Proof.Machine
end

section
/-! PROOFS. Which request a boundary acknowledges (O8), and what acknowledging one, or an access error of the fetch, gives
(O9). -/
namespace Sys2Proof.Machine

/-! ### The request that is chosen (R1006, R1012) -/

/-- A chosen request is present and meets its acknowledgement condition. -/
theorem State.chosen_eq_some {s : State} {e : Ext} {r : Request} (h : s.chosen e = some r) :
    r ∈ s.requests e ∧ s.acceptable r = true := ⟨List.mem_of_find?_eq_some h, List.find?_some h⟩

/-- FENMI comes first, and is always acknowledged. -/
theorem State.chosen_fenmi {s : State} {e : Ext} (h : e.fenmi = true) : s.chosen e = some .fenmi := by
  simp [State.chosen, State.requests, h, State.acceptable]

/-- Settles O8: by the condition of each request; FENMI is the first of the list. -/
theorem requestsWhileNp : Obligations.RequestsWhileNp := by
  intro s e r hchosen
  obtain ⟨-, haccept⟩ := State.chosen_eq_some hchosen
  refine ⟨fun hnp => ?_, fun hid => ?_, fun hfenmi => ?_⟩
  · cases r with
    | fenmi => exact .inl rfl
    | syserr k => exact .inr ⟨k, rfl⟩
    | _ => simp [State.acceptable, hnp] at haccept
  · cases r with
    | fpi | int => simp [State.acceptable, hid] at haccept
    | _ => simp
  · rw [State.chosen_fenmi hfenmi] at hchosen
    cases hchosen
    rfl

theorem State.chosen_syserr {s : State} {e : Ext} {k : Fin 4} (hfenmi : e.fenmi = false) (h : e.syserr = some k) :
    s.chosen e = some (.syserr k) := by
  simp [State.chosen, State.requests, hfenmi, h, State.acceptable]

section
variable {s : State} {e : Ext} (hfenmi : e.fenmi = false) (hsyserr : e.syserr = none)
include hfenmi hsyserr

theorem State.chosen_ppi (hnp : s.fNP = false) (h : s.ppu.ppec.getLsbD 0 = true) : s.chosen e = some .ppi := by
  simp only [State.chosen, State.requests, hfenmi, hsyserr, h]
  simp [State.acceptable, hnp]

variable (hppi : s.ppu.ppec.getLsbD 0 = false)
include hppi

theorem State.chosen_tsi (hnp : s.fNP = false) (h : s.tsu.request = true) : s.chosen e = some .tsi := by
  simp only [State.chosen, State.requests, hfenmi, hsyserr, hppi, h]
  simp [State.acceptable, hnp]

variable (htsi : s.tsu.request = false)
include htsi

theorem State.chosen_feint (hnp : s.fNP = false) (h : e.feint = true) : s.chosen e = some .feint := by
  simp only [State.chosen, State.requests, hfenmi, hsyserr, hppi, htsi, h]
  simp [State.acceptable, hnp]

variable (hfeint : e.feint = false)
include hfeint

theorem State.chosen_fpi (hnp : s.fNP = false) (hid : s.fID = false) (h : s.fpu.fpec.getLsbD 0 = true) :
    s.chosen e = some .fpi := by
  simp only [State.chosen, State.requests, hfenmi, hsyserr, hppi, htsi, hfeint, h]
  simp [State.acceptable, hnp, hid]

variable (hfpi : s.fpu.fpec.getLsbD 0 = false)
include hfpi

theorem State.chosen_int {n : Byte} (hnp : s.fNP = false) (hid : s.fID = false) (h : e.int = some n) :
    s.chosen e = some (.int n) := by
  simp only [State.chosen, State.requests, hfenmi, hsyserr, hppi, htsi, hfeint, hfpi, h]
  simp [State.acceptable, hnp, hid]

theorem State.chosen_none (h : e.int = none) : s.chosen e = none := by
  simp only [State.chosen, State.requests, hfenmi, hsyserr, hppi, htsi, hfeint, hfpi, h]
  rfl

end

/-! ### A boundary that takes an exception -/

/-- The state at a boundary: its input consumed, not halted. -/
def State.atBoundary (s : State) : State := { s.dropInput with halted := false }

theorem State.atBoundary_of_running {s : State} (h : s.halted = false) : s.atBoundary = s.dropInput := by
  have hd : s.dropInput.halted = false := h
  rw [State.atBoundary, ← hd]

/-- A boundary acknowledges the request that is chosen; FPI alone does not release the HALT state (R594, R1005). -/
theorem step_of_chosen {s : State} {r : Request} (hreset : s.input.reset = false)
    (hrelease : s.halted = true → r.releases = true) (hchosen : s.chosen s.input = some r) :
    step s = .next ((s.atBoundary.acknowledge r).tick s.input) := by
  have hboundary : State.boundary exec s.input s.atBoundary = .next (s.atBoundary.acknowledge r) := by
    have h : s.atBoundary.chosen s.input = some r := hchosen
    rw [State.boundary, h]
  cases hhalt : s.halted with
  | true =>
    obtain ⟨hmem, -⟩ := State.chosen_eq_some hchosen
    have hany : (s.dropInput.requests s.input).any Request.releases = true :=
      List.any_eq_true.2 ⟨r, hmem, hrelease hhalt⟩
    rw [step_of_released hhalt hreset hany]
    exact congrArg (tickOutcome s.input) hboundary
  | false =>
    rw [State.atBoundary_of_running hhalt] at hboundary ⊢
    rw [step, State.stepWith, hreset, State.dropInput_halted, hhalt]
    exact congrArg (tickOutcome s.input) hboundary

/-- An access error of the fetch is taken where no request is, instead of the instruction (R1006, R1037). -/
theorem step_of_mep {s : State} {k : Fin 4} (hreset : s.input.reset = false) (hhalt : s.halted = false)
    (hchosen : s.chosen s.input = none) (hfetch : s.dropInput.fetch ≠ .violation) (hmep : s.input.mep = some k) :
    step s = .next (State.tick s.input (s.atBoundary.takeException (.mep k) s.pc)) := by
  have hrun : State.fetchAndRun exec s.input s.dropInput = .next (s.dropInput.takeException (.mep k) s.pc) := by
    rw [State.fetchAndRun, hmep]
    cases hf : s.dropInput.fetch with
    | violation => exact absurd hf hfetch
    | _ => rfl
  have hboundary : State.boundary exec s.input s.dropInput = .next (s.dropInput.takeException (.mep k) s.pc) := by
    have h : s.dropInput.chosen s.input = none := hchosen
    rw [State.boundary, h]
    exact hrun
  rw [State.atBoundary_of_running hhalt, step, State.stepWith, hreset, State.dropInput_halted, hhalt]
  exact congrArg (tickOutcome s.input) hboundary

/-! ### The state at the handler (R1014 to R1019) -/

/-- What `InterruptIsTaken` says of the state at the handler, but for the units that report. -/
def State.AtHandler (s : State) (fe interrupt protection : Bool) (code offset : Word) (u : State) : Prop :=
  u.main = (if fe then s.mainAfterFe s.pc code else s.mainAfterEi s.pc code) ∧
    u.psw = s.pswAtHandler (if fe then 0xE0 else 0x60) interrupt protection ∧
    u.pc = pcValue s.cfg (s.main.ehBase + offset) ∧ u.halted = false ∧ u.prot = s.prot ∧ SameRegsBut [] s u ∧
    SameMem s u ∧ u.inputs = s.inputs.tail

/-- An exception taken from the boundary, whatever its request withdraws of the units first. -/
theorem State.atHandler_takeException (s : State) (p : PpuRegs) (ts : TsuRegs) (f : FpuRegs) (l : List Report)
    (e : Exc) :
    s.AtHandler (decide (e.level = .fe)) e.interrupt e.protection e.code e.offset
      (State.takeException { s.atBoundary with ppu := p, tsu := ts, fpu := f, reports := l } e s.pc) := by
  refine ⟨?main, ?psw, State.takeException_pc _ _ _, ?_, State.takeException_prot _ _ _,
    fun r _ => State.reg_takeException _ _ _ r, fun b => by rw [State.takeException_mem]; rfl, ?_⟩
  case main =>
    cases hlevel : e.level with
    | ei => exact (State.enter_main_ei _ _ _ hlevel)
    | fe => exact (State.enter_main_fe _ _ _ hlevel)
  case psw =>
    rw [State.takeException_psw, State.enter_psw]
    cases e.level <;> rfl
  · exact State.takeException_halted _ _ _
  · exact State.takeException_inputs _ _ _

end Sys2Proof.Machine
end

section
/-! PROOFS. The supervision counters when PSW.ID changes, when an exception is taken and when a handler returns (O46), and
the TSI exception among the interrupts (O9). -/
namespace Sys2Proof.Machine

/-! ### One counter -/

theorem TsuRegs.get_each (t : TsuRegs) (f : Counter → Counter) (k : Fin 6) :
    (t.each f).counters.get k = f (t.counters.get k) := Vector.getElem_map _ k.isLt

/-- What the acknowledgement of an exception of a level does to a counter (R917). -/
def Level.enters : Level → Counter → Counter
  | .ei => Counter.enterEi
  | .fe => Counter.enterFe

/-- PSW written as a whole acts on a counter by the change of ID (R916). -/
theorem State.putPsw_counter (s : State) (v : Word) (k : Fin 6) :
    (s.putPsw v).tsu.counters.get k =
      if s.fID = v.getLsbD 5 then s.tsu.counters.get k else (s.tsu.counters.get k).idChange s.mpe (v.getLsbD 5) := by
  have hid : (s.putPsw v).psw.getLsbD 5 = v.getLsbD 5 := by
    have hmask : pswMask.getLsbD 5 = true := rfl
    have hprot : protMask.getLsbD 5 = false := rfl
    rw [State.putPsw_bit _ _ _ (by decide), hmask, hprot]
    simp
  have htsu : (s.putPsw v).tsu = s.tsu.idChange s.mpe s.fID ((s.putPsw v).psw.getLsbD 5) := rfl
  rw [htsu, hid, TsuRegs.idChange]
  split
  · rfl
  · exact TsuRegs.get_each _ _ k

/-- An exception sets ID. -/
theorem State.excPsw_id (s : State) (e : Exc) : (s.excPsw e).getLsbD 5 = true := by
  have hset : e.level.pswSet.getLsbD 5 = true := by rw [Level.getLsbD_pswSet _ _ (by decide)]; rfl
  have hep : (if e.interrupt then ~~~0x40#32 else 0xFFFFFFFF#32).getLsbD 5 = true := by cases e.interrupt <;> rfl
  have hprot : (if s.aue || e.protection then ~~~protMask else 0xFFFFFFFF#32).getLsbD 5 = true := by
    cases s.aue || e.protection <;> rfl
  rw [State.excPsw_eq, BitVec.getLsbD_and, BitVec.getLsbD_and, BitVec.getLsbD_or, hset, hep, hprot]
  simp

/-- A counter after an exception is acknowledged: it first follows ID, which is set, and then the exception. -/
theorem State.enter_counter (s : State) (e : Exc) (ret : Word) (k : Fin 6) :
    (s.enter e ret).tsu.counters.get k =
      e.level.enters (if s.fID then s.tsu.counters.get k else (s.tsu.counters.get k).idChange s.mpe true) := by
  have hput := (s.saveContext e ret).putPsw_counter (s.excPsw e) k
  have hid : (s.saveContext e ret).fID = s.fID := by rw [State.fID, State.saveContext_psw, State.fID]
  have hmpe : (s.saveContext e ret).mpe = s.mpe := by rw [State.mpe, State.saveContext_prot, State.mpe]
  rw [s.excPsw_id, hid, hmpe, State.saveContext_tsu] at hput
  unfold State.enter State.tsuEnter
  cases hlevel : e.level with
  | ei => exact (TsuRegs.get_each _ _ k).trans (congrArg Counter.enterEi hput)
  | fe => exact (TsuRegs.get_each _ _ k).trans (congrArg Counter.enterFe hput)

theorem State.takeException_counter (s : State) (e : Exc) (ret : Word) (k : Fin 6) :
    (s.takeException e ret).tsu.counters.get k =
      e.level.enters (if s.fID then s.tsu.counters.get k else (s.tsu.counters.get k).idChange s.mpe true) :=
  s.enter_counter e ret k

theorem TsuRegs.idChange_tsec (t : TsuRegs) (mpe old new : Bool) : (t.idChange mpe old new).tsec = t.tsec := by
  unfold TsuRegs.idChange
  split <;> rfl

/-- An exception leaves TSECESUP. -/
theorem State.takeException_tsec (s : State) (e : Exc) (ret : Word) : (s.takeException e ret).tsu.tsec = s.tsu.tsec := by
  exact (TsuRegs.idChange_tsec _ _ _ _).trans (by rw [State.saveContext_tsu])

/-! ### The mode of a counter (R150) -/

section
variable {c : Counter}

theorem Counter.idChange_lock (h : c.ctm = 0b01) (mpe new : Bool) :
    c.idChange mpe new = if new then (c.putCfg 0 mpe).reload else c.putCfg 0 false := if_pos h

theorem Counter.idChange_other (h : c.ctm ≠ 0b01) (mpe new : Bool) : c.idChange mpe new = c := if_neg h

theorem Level.enters_other (l : Level) (h : c.ctm ≠ 0b10) : l.enters c = c := by
  cases l with
  | ei => exact if_neg h
  | fe => exact if_neg h

theorem Counter.leaveEi_other (h : c.ctm ≠ 0b10) (mpe : Bool) : c.leaveEi mpe = c := if_neg h

theorem Counter.leaveFe_other (h : c.ctm ≠ 0b10) (mpe : Bool) : c.leaveFe mpe = c := if_neg h

/-- The mode does not depend on the bits below bit 20. -/
theorem Counter.ctm_putCfg (n : Nat) (hn : n < 20) (b : Bool) : (c.putCfg n b).ctm = c.ctm := by
  apply BitVec.eq_of_getLsbD_eq
  intro i hi
  simp only [Counter.ctm, Counter.putCfg, BitVec.getLsbD_extractLsb', hi, decide_true, Bool.true_and]
  rw [getLsbD_putBit _ _ _ _ (by omega), if_neg (by omega)]

/-! ### The bits of a counter in runtime supervision mode (R917) -/

/-- ACT, EIACT and FEACT have these values, and the rest of the counter is that of `c`. -/
def Counter.Activity (c : Counter) (act ei fe : Bool) (d : Counter) : Prop :=
  d.act = act ∧ d.eiact = ei ∧ d.feact = fe ∧ d.cfg &&& ~~~7#32 = c.cfg &&& ~~~7#32 ∧ d = { c with cfg := d.cfg }

theorem Counter.activity_refl (c : Counter) : c.Activity c.act c.eiact c.feact c := ⟨rfl, rfl, rfl, rfl, rfl⟩

theorem Counter.Activity.putAct {act ei fe : Bool} {d : Counter} (h : c.Activity act ei fe d) (b : Bool) :
    c.Activity b ei fe (d.putCfg 0 b) := by
  obtain ⟨-, hei, hfe, hcfg, hrest⟩ := h
  refine ⟨?_, ?_, ?_, (and_putBit _ _ 0 b rfl).trans hcfg, by rw [hrest]; rfl⟩
  · simp [Counter.act, Counter.putCfg, getElem_putBit]
  · simpa [Counter.eiact, Counter.putCfg, getElem_putBit] using hei
  · simpa [Counter.feact, Counter.putCfg, getElem_putBit] using hfe

theorem Counter.Activity.putEiact {act ei fe : Bool} {d : Counter} (h : c.Activity act ei fe d) (b : Bool) :
    c.Activity act b fe (d.putCfg 1 b) := by
  obtain ⟨hact, -, hfe, hcfg, hrest⟩ := h
  refine ⟨?_, ?_, ?_, (and_putBit _ _ 1 b rfl).trans hcfg, by rw [hrest]; rfl⟩
  · simpa [Counter.act, Counter.putCfg, getElem_putBit] using hact
  · simp [Counter.eiact, Counter.putCfg, getElem_putBit]
  · simpa [Counter.feact, Counter.putCfg, getElem_putBit] using hfe

theorem Counter.Activity.putFeact {act ei fe : Bool} {d : Counter} (h : c.Activity act ei fe d) (b : Bool) :
    c.Activity act ei b (d.putCfg 2 b) := by
  obtain ⟨hact, hei, -, hcfg, hrest⟩ := h
  refine ⟨?_, ?_, ?_, (and_putBit _ _ 2 b rfl).trans hcfg, by rw [hrest]; rfl⟩
  · simpa [Counter.act, Counter.putCfg, getElem_putBit] using hact
  · simpa [Counter.eiact, Counter.putCfg, getElem_putBit] using hei
  · simp [Counter.feact, Counter.putCfg, getElem_putBit]

theorem Counter.activity_enterEi (h : c.ctm = 0b10) : c.Activity false c.act c.feact c.enterEi := by
  have hrun : c.enterEi = (c.putCfg 1 c.act).putCfg 0 false := if_pos h
  rw [hrun]
  exact (c.activity_refl.putEiact c.act).putAct false

theorem Counter.activity_enterFe (h : c.ctm = 0b10) : c.Activity false c.eiact c.act c.enterFe := by
  have hrun : c.enterFe = (c.putCfg 2 c.act).putCfg 0 false := if_pos h
  rw [hrun]
  exact (c.activity_refl.putFeact c.act).putAct false

theorem Counter.activity_leaveEi (h : c.ctm = 0b10) : c.Activity c.eiact c.eiact c.feact (c.leaveEi true) := by
  have hrun : c.leaveEi true = c.putCfg 0 (c.eiact && true) := if_pos h
  rw [hrun, Bool.and_true]
  exact c.activity_refl.putAct c.eiact

theorem Counter.activity_leaveFe (h : c.ctm = 0b10) : c.Activity c.feact c.eiact c.feact (c.leaveFe true) := by
  have hrun : c.leaveFe true = c.putCfg 0 (c.feact && true) := if_pos h
  rw [hrun, Bool.and_true]
  exact c.activity_refl.putAct c.feact

end

/-! ### A counter of each mode, on a state -/

section
variable {s : State} {k : Fin 6}

/-- A counter that does not supervise the lock does not follow ID. -/
theorem State.putPsw_counter_other (h : (s.tsu.counters.get k).ctm ≠ 0b01) (v : Word) :
    (s.putPsw v).tsu.counters.get k = s.tsu.counters.get k := by
  rw [State.putPsw_counter, Counter.idChange_other h, ite_self]

/-- A return by EIRET or FERET acts on a counter that does not supervise the lock as its handler left it (R917). -/
theorem State.return_counter (h : (s.tsu.counters.get k).ctm ≠ 0b01) (pc psw : Word) :
    (s.reportEnd.returnTo pc psw).tsu.counters.get k = s.tsu.counters.get k := by
  have hrep : s.reportEnd.tsu = s.tsu := s.reportEnd_tsu
  have hput := State.putPsw_counter_other (s := s.reportEnd) (k := k) (by rwa [hrep]) psw
  rw [hrep] at hput
  exact hput

theorem State.eiret_counter (h : (s.tsu.counters.get k).ctm ≠ 0b01) (pc psw : Word) :
    ((s.reportEnd.returnTo pc psw).tsuLeave .ei).tsu.counters.get k = (s.tsu.counters.get k).leaveEi s.mpe := by
  have hmpe : (s.reportEnd.returnTo pc psw).mpe = s.mpe := by
    rw [State.mpe, State.returnTo_prot, State.reportEnd_prot, State.mpe]
  refine (TsuRegs.get_each _ _ k).trans ?_
  rw [State.return_counter h, hmpe]

theorem State.feret_counter (h : (s.tsu.counters.get k).ctm ≠ 0b01) (pc psw : Word) :
    ((s.reportEnd.returnTo pc psw).tsuLeave .fe).tsu.counters.get k = (s.tsu.counters.get k).leaveFe s.mpe := by
  have hmpe : (s.reportEnd.returnTo pc psw).mpe = s.mpe := by
    rw [State.mpe, State.returnTo_prot, State.reportEnd_prot, State.mpe]
  refine (TsuRegs.get_each _ _ k).trans ?_
  rw [State.return_counter h, hmpe]

/-- RETI leaves a counter that does not supervise the lock, whichever pair it returns by (D32). -/
theorem gives_reti_counter (h : (s.tsu.counters.get k).ctm ≠ 0b01) :
    Gives .reti s fun t => t.tsu.counters.get k = s.tsu.counters.get k := by
  by_cases hfe : (s.fNP && !s.fEP) = true
  · exact ⟨_, if_pos hfe, State.return_counter h _ _⟩
  · exact ⟨_, if_neg hfe, State.return_counter h _ _⟩

/-- An exception acts on a counter that does not supervise the lock by its level alone. -/
theorem State.takeException_counter_other (h : (s.tsu.counters.get k).ctm ≠ 0b01) (e : Exc) (ret : Word) :
    (s.takeException e ret).tsu.counters.get k = e.level.enters (s.tsu.counters.get k) := by
  rw [State.takeException_counter, Counter.idChange_other h, ite_self]

/-- A counter that supervises the lock starts, with its count reloaded, when ID is set (R916). -/
theorem Counter.act_cnt_start {c : Counter} (h : c.ctm = 0b01) :
    (c.idChange true true).act = true ∧ (c.idChange true true).cnt = c.rld := by
  rw [Counter.idChange_lock h]
  exact ⟨by simp [Counter.reload, Counter.act, Counter.putCfg, getElem_putBit], rfl⟩

/-- It stops, with its count kept, when ID is cleared (R916). -/
theorem Counter.act_cnt_stop {c : Counter} (h : c.ctm = 0b01) (mpe : Bool) :
    (c.idChange mpe false).act = false ∧ (c.idChange mpe false).cnt = c.cnt := by
  rw [Counter.idChange_lock h]
  exact ⟨c.act_putCfg_false, rfl⟩

/-- An exception that sets ID starts a counter that supervises the lock. -/
theorem State.takeException_counter_lock (hmpe : s.mpe = true) (hid : s.fID = false)
    (h : (s.tsu.counters.get k).ctm = 0b01) (e : Exc) (ret : Word) :
    ((s.takeException e ret).tsu.counters.get k).act = true ∧
      ((s.takeException e ret).tsu.counters.get k).cnt = (s.tsu.counters.get k).rld := by
  have hmode : ((s.tsu.counters.get k).idChange true true).ctm ≠ 0b10 := by
    rw [Counter.idChange_lock h, if_pos rfl]
    have hkeep : ((s.tsu.counters.get k).putCfg 0 true).reload.ctm = 0b01 :=
      (Counter.ctm_putCfg 0 (by decide) true).trans h
    rw [hkeep]
    decide
  rw [State.takeException_counter, hid, hmpe, if_neg Bool.false_ne_true, Level.enters_other _ hmode]
  exact Counter.act_cnt_start h

end

/-- Settles O46: DI and EI act on a counter by ID alone; an exception by ID and then by its level; a return by ID and then,
for EIRET and FERET, by its level. -/
theorem diStartsLockCounters : Obligations.DiStartsLockCounters := by
  intro s k hk v5 v4 hmpe
  have hlock (c : Counter) (h : c.ctm = 0b10 ∨ c.ctm = 0b00) : c.ctm ≠ 0b01 := by
    rcases h with h | h <;> rw [h] <;> decide
  generalize hj : (⟨k, hk⟩ : Fin 6) = j
  have hget (t : State) : t.tsu.counters[k] = t.tsu.counters.get j := by rw [← hj]; rfl
  simp only [hget]
  refine ⟨fun hid => ⟨_, rfl, ?di⟩, fun hid => ⟨_, rfl, ?ei⟩, fun hmode hid => ?lock, fun hmode => ?runtime,
    fun hmode => ?normal⟩
  case di =>
    have hbit : (putBit s.psw 5 true).getLsbD 5 = true := by rw [getLsbD_putBit _ _ _ _ (by decide), if_pos rfl]
    dsimp only
    rw [State.advance_tsu, State.putPsw_counter, hid, hbit, if_neg Bool.false_ne_true, hmpe]
    exact ⟨Counter.act_cnt_start, fun h => Counter.idChange_other h _ _⟩
  case ei =>
    have hbit : (putBit s.psw 5 false).getLsbD 5 = false := by rw [getLsbD_putBit _ _ _ _ (by decide), if_pos rfl]
    dsimp only
    rw [State.advance_tsu, State.putPsw_counter, hid, hbit, if_neg Bool.false_ne_true.symm]
    exact ⟨fun h => Counter.act_cnt_stop h _, fun h => Counter.idChange_other h _ _⟩
  case lock =>
    exact ⟨⟨_, rfl, State.takeException_counter_lock hmpe hid hmode _ _⟩,
      ⟨_, rfl, State.takeException_counter_lock hmpe hid hmode _ _⟩⟩
  case runtime =>
    have hother := hlock _ (.inl hmode)
    refine ⟨⟨_, rfl, ?trap⟩, ⟨_, rfl, ?fetrap⟩, ⟨_, rfl, ?eiret⟩, ⟨_, rfl, ?feret⟩,
      ⟨_, rfl, State.putPsw_counter_other hother _⟩, gives_reti_counter hother⟩
    case trap =>
      dsimp only
      rw [State.takeException_counter_other hother]
      exact Counter.activity_enterEi hmode
    case fetrap =>
      dsimp only
      rw [State.takeException_counter_other hother]
      exact Counter.activity_enterFe hmode
    case eiret =>
      dsimp only
      rw [State.eiret_counter hother, hmpe]
      exact Counter.activity_leaveEi hmode
    case feret =>
      dsimp only
      rw [State.feret_counter hother, hmpe]
      exact Counter.activity_leaveFe hmode
  case normal =>
    have hother := hlock _ (.inr hmode)
    have hidle : (s.tsu.counters.get j).ctm ≠ 0b10 := by rw [hmode]; decide
    intro i hi
    simp only [List.mem_cons, List.not_mem_nil, or_false] at hi
    rcases hi with rfl | rfl | rfl | rfl | rfl | rfl
    · exact ⟨_, rfl, (State.takeException_counter_other hother _ _).trans (Level.enters_other _ hidle)⟩
    · exact ⟨_, rfl, (State.takeException_counter_other hother _ _).trans (Level.enters_other _ hidle)⟩
    · exact ⟨_, rfl, (State.eiret_counter hother _ _).trans (Counter.leaveEi_other hidle _)⟩
    · exact ⟨_, rfl, (State.feret_counter hother _ _).trans (Counter.leaveFe_other hidle _)⟩
    · exact ⟨_, rfl, State.putPsw_counter_other hother _⟩
    · exact gives_reti_counter hother

end Sys2Proof.Machine
end

section
/-! PROOFS. The interrupts and the access error that a boundary takes (O9). -/
namespace Sys2Proof.Machine

/-! ### The TSI exception (R919) -/

/-- Two counters report the same: ES and VS agree. -/
def Counter.SameReport (c d : Counter) : Prop := d.es = c.es ∧ d.vs = c.vs

theorem Counter.SameReport.putCfg {c d : Counter} (h : c.SameReport d) {n : Nat} (hn : n < 8) (b : Bool) :
    c.SameReport (d.putCfg n b) := by
  obtain ⟨hes, hvs⟩ := h
  have hbit (k : Nat) (hk : k < 32) (hkn : k ≠ n) : (d.putCfg n b).cfg.getLsbD k = d.cfg.getLsbD k :=
    (getLsbD_putBit _ _ _ _ hk).trans (if_neg hkn)
  exact ⟨(hbit 9 (by decide) (by omega)).trans hes, (hbit 8 (by decide) (by omega)).trans hvs⟩

theorem Counter.SameReport.idChange {c d : Counter} (h : c.SameReport d) (mpe new : Bool) :
    c.SameReport (d.idChange mpe new) := by
  unfold Counter.idChange
  split
  · split
    · exact h.putCfg (n := 0) (by decide) mpe
    · exact h.putCfg (by decide) false
  · exact h

theorem Counter.SameReport.enters {c d : Counter} (h : c.SameReport d) (l : Level) : c.SameReport (l.enters d) := by
  cases l with
  | ei =>
    dsimp only [Level.enters, Counter.enterEi]
    split
    · exact (h.putCfg (by decide) d.act).putCfg (by decide) false
    · exact h
  | fe =>
    dsimp only [Level.enters, Counter.enterFe]
    split
    · exact (h.putCfg (by decide) d.act).putCfg (by decide) false
    · exact h

/-- Taking an exception leaves what each counter reports. -/
theorem State.sameReport_takeException (s : State) (e : Exc) (ret : Word) (k : Fin 6) :
    (s.tsu.counters.get k).SameReport ((s.takeException e ret).tsu.counters.get k) := by
  have hrefl : (s.tsu.counters.get k).SameReport (s.tsu.counters.get k) := ⟨rfl, rfl⟩
  rw [State.takeException_counter]
  split
  · exact hrefl.enters _
  · exact (hrefl.idChange _ _).enters _

/-- A counter that was reporting moves VS to ES (R919). -/
theorem Counter.acknowledge_report (c : Counter) :
    c.acknowledge.es = (c.es || (c.exm && c.vs)) ∧ c.acknowledge.vs = (!c.exm && c.vs) := by
  unfold Counter.acknowledge
  cases hreport : c.exm && c.vs with
  | true =>
    obtain ⟨hexm, hvs⟩ := Bool.and_eq_true_iff.1 hreport
    simp [Counter.es, Counter.vs, Counter.putCfg, getElem_putBit, hexm]
  | false =>
    simp only [Bool.false_eq_true, if_false, Bool.or_false, true_and]
    revert hreport
    cases c.exm <;> cases c.vs <;> simp

/-! ### What a boundary enters -/

/-- A step that goes to `u` before its clocks, where `u` is at the handler. -/
theorem exists_handler {s u : State} {fe interrupt protection : Bool} {code offset : Word} {P : State → Prop}
    (hstep : step s = .next (u.tick s.input)) (h : s.AtHandler fe interrupt protection code offset u) (hP : P u) :
    ∃ u : State, step s = .next (u.tick s.input) ∧
      u.main = (if fe then s.mainAfterFe s.pc code else s.mainAfterEi s.pc code) ∧
      u.psw = s.pswAtHandler (if fe then 0xE0 else 0x60) interrupt protection ∧
      u.pc = pcValue s.cfg (s.main.ehBase + offset) ∧ u.halted = false ∧ u.prot = s.prot ∧ SameRegsBut [] s u ∧
      SameMem s u ∧ u.inputs = s.inputs.tail ∧ P u := by
  obtain ⟨hmain, hpsw, hpc, hhalt, hprot, hregs, hmem, hinputs⟩ := h
  exact ⟨u, hstep, hmain, hpsw, hpc, hhalt, hprot, hregs, hmem, hinputs, hP⟩

/-- Settles O9: the request that is chosen is acknowledged, from the state at the boundary with the report of the request
withdrawn; MEP is taken where none is. -/
theorem interruptIsTaken : Obligations.InterruptIsTaken := by
  intro s hreset
  have taken := s.atHandler_takeException
  have ppuOf (u : State) (e : Exc) : (u.takeException e s.pc).ppu = u.ppu := State.takeException_ppu u e s.pc
  have fpuOf (u : State) (e : Exc) : (u.takeException e s.pc).fpu = u.fpu := State.takeException_fpu u e s.pc
  have repOf (u : State) (e : Exc) : (u.takeException e s.pc).reports = u.reports :=
    State.takeException_reports u e s.pc
  refine ⟨fun h => ?fenmi, fun hfenmi k h => ?syserr, fun ⟨hfenmi, hsyserr, hnp⟩ h => ?ppi,
    fun ⟨hfenmi, hsyserr, hnp⟩ hppi h => ?tsi, fun ⟨hfenmi, hsyserr, hnp⟩ hppi htsi h => ?feint,
    fun ⟨⟨hfenmi, hsyserr, hnp⟩, hppi, htsi, hfeint, hid⟩ h hhalt => ?fpi,
    fun ⟨⟨hfenmi, hsyserr, hnp⟩, hppi, htsi, hfeint, hid⟩ hfpi n h => ?int,
    fun hfenmi hsyserr hppi htsi hfeint hfpi hint hhalt hfetch k h => ?mep⟩
  case fenmi =>
    exact exists_handler (step_of_chosen hreset (fun _ => rfl) (State.chosen_fenmi h))
      (taken s.ppu s.tsu s.fpu s.reports .fenmi) ⟨ppuOf _ _, fpuOf _ _, repOf _ _⟩
  case syserr =>
    exact exists_handler (step_of_chosen hreset (fun _ => rfl) (State.chosen_syserr hfenmi h))
      (taken s.ppu s.tsu s.fpu s.reports (.syserr k)) ⟨ppuOf _ _, fpuOf _ _, repOf _ _⟩
  case ppi =>
    exact exists_handler (step_of_chosen hreset (fun _ => rfl) (State.chosen_ppi hfenmi hsyserr hnp h))
      (taken { s.ppu with ppec := 0 } s.tsu s.fpu s.reports .ppi) ⟨ppuOf _ _, fpuOf _ _, repOf _ _⟩
  case tsi =>
    refine exists_handler (step_of_chosen hreset (fun _ => rfl) (State.chosen_tsi hfenmi hsyserr hppi hnp h))
      (taken s.ppu s.tsu.acknowledge s.fpu s.reports .tsi) ⟨⟨ppuOf _ _, fpuOf _ _, repOf _ _⟩,
        State.takeException_tsec _ _ _, fun k => ?_⟩
    obtain ⟨hes, hvs⟩ := State.sameReport_takeException { s.atBoundary with tsu := s.tsu.acknowledge } .tsi s.pc k
    have hget : s.tsu.acknowledge.counters.get k = (s.tsu.counters.get k).acknowledge := TsuRegs.get_each _ _ k
    obtain ⟨hes', hvs'⟩ := (s.tsu.counters.get k).acknowledge_report
    dsimp only at hes hvs
    rw [hget] at hes hvs
    exact ⟨hes.trans hes', hvs.trans hvs'⟩
  case feint =>
    exact exists_handler (step_of_chosen hreset (fun _ => rfl) (State.chosen_feint hfenmi hsyserr hppi htsi hnp h))
      (taken s.ppu s.tsu s.fpu s.reports .feint) ⟨ppuOf _ _, fpuOf _ _, repOf _ _⟩
  case fpi =>
    have hchosen := State.chosen_fpi hfenmi hsyserr hppi htsi hfeint hnp hid h
    exact exists_handler (step_of_chosen hreset (fun hh => absurd (hh.symm.trans hhalt) (by decide)) hchosen)
      (taken s.ppu s.tsu { s.fpu with fpec := 0 } s.reports .fpi) ⟨fpuOf _ _, ppuOf _ _, repOf _ _⟩
  case int =>
    have hchosen := State.chosen_int hfenmi hsyserr hppi htsi hfeint hfpi hnp hid h
    exact exists_handler (step_of_chosen hreset (fun _ => rfl) hchosen)
      (taken s.ppu s.tsu s.fpu (.ackInt n :: s.reports) (.int (s.main.ehCfg.getLsbD 0) n))
      ⟨ppuOf _ _, fpuOf _ _, repOf _ _⟩
  case mep =>
    have hchosen := State.chosen_none hfenmi hsyserr hppi htsi hfeint hfpi hint
    exact exists_handler (step_of_mep hreset hhalt hchosen hfetch h)
      (taken s.ppu s.tsu s.fpu s.reports (.mep k)) ⟨ppuOf _ _, fpuOf _ _, repOf _ _⟩

end Sys2Proof.Machine
end

section
/-! PROOFS. The MDP and MIP exceptions (O35): the state at the handler, and that a fetch meets the halfword that may not be
executed. -/
namespace Sys2Proof.Machine

/-! ### The state at the handler of a protection exception (R881, R882, R1018) -/

/-- PSW at the handler of a protection exception of the FE level: no protection bit is set, NP, EP and ID are. -/
theorem State.pswAtHandler_protection (s : State) :
    s.pswAtHandler 0xE0 false true &&& protMask = 0 ∧ (s.pswAtHandler 0xE0 false true).getLsbD 7 = true ∧
      (s.pswAtHandler 0xE0 false true).getLsbD 6 = true ∧ (s.pswAtHandler 0xE0 false true).getLsbD 5 = true := by
  unfold State.pswAtHandler State.pswAllowed
  rw [Bool.or_true, if_pos rfl]
  refine ⟨?_, ?_, ?_, ?_⟩
  · apply BitVec.eq_of_getLsbD_eq
    intro n hn
    simp only [BitVec.getLsbD_and, BitVec.getLsbD_not, hn]
    cases protMask.getLsbD n <;> simp
  all_goals cases s.mpe <;> cases s.aue <;> simp [pswMask, protMask, bitAt]

/-- What `MdpException` says of the state at the handler. -/
def State.AtProtectionHandler (s : State) (code cause at' : Word) (t : State) : Prop :=
  t.prot = { s.prot with vmecr := cause, vmtid := s.prot.tid, vmadr := at' } ∧ t.main = s.mainAfterFe s.pc code ∧
    t.psw = s.pswAtHandler 0xE0 false true ∧ t.psw &&& protMask = 0 ∧ t.fNP = true ∧ t.fEP = true ∧ t.fID = true ∧
    t.pc = pcValue s.cfg (s.main.ehBase + 0x30) ∧ KeepsData s t

/-- A protection exception of the FE level, taken where the violation registers hold its cause and address. -/
theorem State.atProtectionHandler_takeException (s : State) {e : Exc} {code : Word}
    (he : e = ⟨.fe, code, 0x30, false, true⟩) (cause at' : Word) :
    s.AtProtectionHandler code cause at'
      (State.takeException { s with prot := { s.prot with vmecr := cause, vmtid := s.prot.tid, vmadr := at' } } e
        s.pc) := by
  subst he
  obtain ⟨hprot, hnp, hep, hid⟩ := s.pswAtHandler_protection
  have hpsw := State.enter_psw { s with prot := { s.prot with vmecr := cause, vmtid := s.prot.tid, vmadr := at' } }
    ⟨.fe, code, 0x30, false, true⟩ s.pc
  refine ⟨State.takeException_prot _ _ _, State.enter_main_fe _ _ _ rfl, hpsw, ?_, ?_, ?_, ?_,
    State.takeException_pc _ _ _, State.keepsData_enter _ _ _⟩
  · exact (congrArg (· &&& protMask) hpsw).trans hprot
  · exact (congrArg (fun w : Word => w.getLsbD 7) hpsw).trans hnp
  · exact (congrArg (fun w : Word => w.getLsbD 6) hpsw).trans hep
  · exact (congrArg (fun w : Word => w.getLsbD 5) hpsw).trans hid

/-! ### A fetch that meets a halfword it may not execute (R872) -/

/-- An instruction whose first halfword decides its length is 16 bits long. -/
theorem instrLength_of_not_needsSecond {h1 : Half} (h : needsSecond h1 = false) (h2 : Half) : instrLength h1 h2 = 2 := by
  simp only [needsSecond, Bool.or_eq_false_iff, decide_eq_false_iff_not, BitVec.not_le, Bool.and_eq_false_iff] at h
  obtain ⟨hop, hjump⟩ := h
  refine instrLength_short h2 (by bv_omega) fun hj => ?_
  rcases hjump with hjump | hjump
  · exact hjump hj.1
  · exact hjump hj.2

/-- No instruction has more than four halfwords (R287). -/
theorem instrLength_le (h1 h2 : Half) : instrLength h1 h2 ≤ 8 := by
  unfold instrLength
  dsimp only
  repeat' split
  all_goals decide

/-- Halfwords in memory are fetched where they may be executed, and end the fetch where not. -/
def State.ChecksHalves (s : State) (l : List Half) : Prop :=
  ∀ j (hj : j < l.length), ∀ f : Half → Fetched,
    s.fetchHalf (2 * j) f = if s.permitsFetch (s.fetchAddr (2 * j)) then f l[j] else .violation

theorem State.checksHalves_of_bytes {s : State} {l : List Half}
    (hbytes : ∀ k < 2 * l.length, memKind s.cfg (s.fetchAddr k) = .ram ∧
      some (s.mem.read (s.fetchAddr k).toNat) = (l.flatMap bytesOfHalf)[k]?) : s.ChecksHalves l := by
  intro j hj f
  by_cases hperm : s.permitsFetch (s.fetchAddr (2 * j)) = true
  · obtain ⟨hlo, hlo'⟩ := hbytes (2 * j) (by omega)
    obtain ⟨hhi, hhi'⟩ := hbytes (2 * j + 1) (by omega)
    obtain ⟨heven, hodd⟩ := getElem?_bytes l j
    rw [heven, List.getElem?_eq_getElem hj, Option.map_some, Option.some_inj] at hlo'
    rw [hodd, List.getElem?_eq_getElem hj, Option.map_some, Option.some_inj] at hhi'
    rw [if_pos hperm, State.fetchHalf_ram hperm hlo hhi, hlo', hhi', halfOfBytes_bytes]
  · rw [if_neg hperm, State.fetchHalf, if_neg hperm]

/-- Where the first `n` halfwords may be executed and some halfword may not, it is a later one. -/
theorem le_of_permitted {p : Nat → Bool} {n k : Nat} (hp : ∀ j < n, p j = true) (hk : p k = false) : n ≤ k := by
  by_contra hlt
  rw [hp k (not_le.1 hlt)] at hk
  cases hk

/-- The fetch of an instruction in memory, of which some halfword may not be executed, is a violation. -/
theorem State.ChecksHalves.fetch_violation {s : State} {h1 : Half} {rest : List Half}
    (h : s.ChecksHalves (h1 :: rest)) (hlength : instrLength h1 (rest.getD 0 0) = 2 * (h1 :: rest).length) {k : Nat}
    (hk : k < (h1 :: rest).length) (hbad : s.permitsFetch (s.fetchAddr (2 * k)) = false) : s.fetch = .violation := by
  rw [List.length_cons] at hlength hk
  have hmax := instrLength_le h1 (rest.getD 0 0)
  have later {n : Nat} (hp : ∀ j < n, s.permitsFetch (s.fetchAddr (2 * j)) = true) : n ≤ k :=
    le_of_permitted (p := fun j => s.permitsFetch (s.fetchAddr (2 * j))) hp hbad
  have hnext (j : Nat) (hj : j < rest.length) (f : Half → Fetched) :
      s.fetchHalf (2 * (j + 1)) f =
        if s.permitsFetch (s.fetchAddr (2 * (j + 1))) then f (rest.getD j 0) else .violation := by
    rw [h (j + 1) (Nat.succ_lt_succ hj), List.getElem_cons_succ, List.getD_eq_getElem _ _ hj]
  have hfirst (f : Half → Fetched) :
      s.fetchHalf 0 f = if s.permitsFetch (s.fetchAddr 0) then f h1 else .violation := h 0 (Nat.zero_lt_succ _) f
  rw [State.fetch, hfirst]
  split
  case isFalse => rfl
  case isTrue hp0 =>
    have hk1 : 1 ≤ k := later fun j hj => by
      obtain rfl : j = 0 := by omega
      exact hp0
    split
    case isFalse hsecond =>
      rw [instrLength_of_not_needsSecond (by simpa using hsecond)] at hlength
      omega
    case isTrue hsecond =>
      rw [hnext 0 (by omega)]
      split
      case isFalse => rfl
      case isTrue hp1 =>
        have hk2 : 2 ≤ k := later fun j hj => by
          obtain rfl | rfl : j = 0 ∨ j = 1 := by omega
          · exact hp0
          · exact hp1
        dsimp only
        rw [hlength, if_neg (by omega), hnext 1 (by omega)]
        split
        case isFalse => rfl
        case isTrue hp2 =>
          have hk3 : 3 ≤ k := later fun j hj => by
            obtain rfl | rfl | rfl : j = 0 ∨ j = 1 ∨ j = 2 := by omega
            · exact hp0
            · exact hp1
            · exact hp2
          obtain rfl : k = 3 := by omega
          rw [if_neg (by omega), hnext 2 (by omega), if_neg (by simpa using hbad)]

/-- A fetch that is a violation takes MIP, where no request comes first (R872, R1006). -/
theorem step_of_violation {s : State} (hreset : s.input.reset = false) (hhalt : s.halted = false)
    (hchosen : s.dropInput.chosen s.input = none) (hfetch : s.dropInput.fetch = .violation) :
    step s = tickOutcome s.input (.next s.dropInput.raiseMip) := by
  have hrun : s.dropInput.boundary exec s.input = .next s.dropInput.raiseMip := by
    simp only [State.boundary, hchosen, State.fetchAndRun, hfetch]
  rw [step, State.stepWith, ← hrun]
  simp [hreset, hhalt]

/-- Settles O35: both exceptions enter the same way; the fetch of the instruction meets the first halfword that may not be
executed before it has read the instruction. -/
theorem mdpException : Obligations.MdpException := by
  intro s a c i
  refine ⟨s.atProtectionHandler_takeException rfl c a, s.atProtectionHandler_takeException rfl 2 s.pc, ?_⟩
  intro _ hdecode hreset hhalt hchosen hbytes ⟨k, hk, hbad⟩
  have hsize : i.size / 2 = (encode i).length := Nat.mul_div_cancel_left _ (by decide)
  have hchecks : s.dropInput.ChecksHalves (encode i) := State.checksHalves_of_bytes (s := s.dropInput) hbytes
  obtain ⟨h1, rest, hl, -, -, hhalves⟩ := decode_bytes hdecode
  obtain ⟨-, hlength⟩ := decodedIsWellFormed _ _ _ _ _ hhalves
  rw [hsize] at hk
  have hlen : i.size = 2 * (encode i).length := rfl
  rw [hlen] at hlength
  rw [hl] at hchecks hk hlength
  exact step_of_violation hreset hhalt hchosen (hchecks.fetch_violation hlength.symm hk hbad)

end Sys2Proof.Machine
end

section
/-! PROOFS. What memory protection permits, and what the setting check answers (O36). -/
namespace Sys2Proof.Machine

/-! ### The range of an area (R871, R875, R877) -/

/-- An access of some bytes lies in the range of an area exactly if the area exists and holds it. -/
theorem Area.range_holds (p : Area) {a n : Nat} (hn : 0 < n) :
    (∃ r, p.range = some r ∧ r.1 ≤ a ∧ a + n - 1 ≤ r.2) ↔ p.Holds a n := by
  unfold Area.range Area.Holds
  dsimp only
  generalize p.lower &&& 0xFFFFFFF0#32 = low
  generalize p.upper ||| 0xF#32 = high
  have hrange (e : Bool) (lo hi : Word) :
      (∃ r, (if e && decide (lo ≤ hi) then some (lo.toNat, hi.toNat) else none) = some r ∧ r.1 ≤ a ∧ a + n - 1 ≤ r.2) ↔
        e = true ∧ lo.toNat ≤ a ∧ a + n ≤ hi.toNat + 1 := by
    constructor
    · rintro ⟨r, hr, hlo, hhi⟩
      split at hr
      · rename_i he
        cases hr
        dsimp only at hlo hhi
        exact ⟨(Bool.and_eq_true_iff.1 he).1, hlo, by omega⟩
      · cases hr
    · rintro ⟨he, hlo, hhi⟩
      have hle : lo ≤ hi := BitVec.le_def.2 (by omega)
      exact ⟨_, if_pos (by simp [he, hle]), hlo, by dsimp only; omega⟩
  rw [hrange]
  cases p.lower.getLsbD 2 <;> rfl

/-- An instruction area grants a right to an access exactly if it holds the access and has the right (R131). -/
theorem Area.ipaGrant_holds (p : Area) {a n : Nat} (hn : 0 < n) {sp b : Bool} {right : Grant → Bool}
    (hright : ∀ lo hi, right ⟨lo, hi, p.upper.getLsbD 1, false, p.upper.getLsbD 0, sp⟩ = b) :
    (∃ g, p.ipaGrant sp = some g ∧ (g.contains a n && right g) = true) ↔ p.Holds a n ∧ b = true := by
  rw [← p.range_holds hn]
  simp only [Area.ipaGrant, Option.map_eq_some_iff, Grant.contains, Bool.and_eq_true, decide_eq_true_eq]
  constructor
  · rintro ⟨g, ⟨r, hr, rfl⟩, ⟨⟨-, hlo⟩, hhi⟩, hg⟩
    exact ⟨⟨r, hr, hlo, hhi⟩, (hright _ _).symm.trans hg⟩
  · rintro ⟨⟨r, hr, hlo, hhi⟩, hb⟩
    exact ⟨_, ⟨r, hr, rfl⟩, ⟨⟨hn, hlo⟩, hhi⟩, (hright _ _).trans hb⟩

/-- The same of a data area (R133). -/
theorem Area.dpaGrant_holds (p : Area) {a n : Nat} (hn : 0 < n) {sp b : Bool} {right : Grant → Bool}
    (hright : ∀ lo hi, right ⟨lo, hi, p.upper.getLsbD 1, p.upper.getLsbD 2, false, sp⟩ = b) :
    (∃ g, p.dpaGrant sp = some g ∧ (g.contains a n && right g) = true) ↔ p.Holds a n ∧ b = true := by
  rw [← p.range_holds hn]
  simp only [Area.dpaGrant, Option.map_eq_some_iff, Grant.contains, Bool.and_eq_true, decide_eq_true_eq]
  constructor
  · rintro ⟨g, ⟨r, hr, rfl⟩, ⟨⟨-, hlo⟩, hhi⟩, hg⟩
    exact ⟨⟨r, hr, hlo, hhi⟩, (hright _ _).symm.trans hg⟩
  · rintro ⟨⟨r, hr, hlo, hhi⟩, hb⟩
    exact ⟨_, ⟨r, hr, rfl⟩, ⟨⟨hn, hlo⟩, hhi⟩, (hright _ _).trans hb⟩

/-! ### The areas of a state (R134, R873, R874) -/

section
variable {s : State} {a n : Nat} (hn : 0 < n)

/-- Some grant is that of an instruction area, or of a data area, whose S follows its number. -/
theorem State.any_grants (s : State) (f : Grant → Bool) :
    s.grants.any f = true ↔
      (∃ k : Fin 5, ∃ g, (s.prot.ipa.get k).ipaGrant (!s.sps) = some g ∧ f g = true) ∨
        ∃ k : Fin 6, ∃ g, (s.prot.dpa.get k).dpaGrant (k == 0 || !s.sps) = some g ∧ f g = true := by
  have hzero : ∀ k : Fin 6, (k == 0) = (k.val == 0) := by decide
  simp only [State.grants, List.any_append, Bool.or_eq_true, List.any_eq_true, List.mem_filterMap,
    Vector.mem_toList_iff, Vector.mem_iff_getElem]
  refine or_congr ⟨?_, ?_⟩ ⟨?_, ?_⟩
  · rintro ⟨g, ⟨_, ⟨k, hk, rfl⟩, hg⟩, hf⟩
    exact ⟨⟨k, hk⟩, g, hg, hf⟩
  · rintro ⟨k, g, hg, hf⟩
    exact ⟨g, ⟨_, ⟨k.val, k.isLt, rfl⟩, hg⟩, hf⟩
  · rintro ⟨g, ⟨⟨p, k⟩, hp, hg⟩, hf⟩
    rw [List.mk_mem_zipIdx_iff_getElem?, Vector.getElem?_toList, Vector.getElem?_eq_some_iff] at hp
    obtain ⟨hk, rfl⟩ := hp
    exact ⟨⟨k, hk⟩, g, by rw [hzero]; exact hg, hf⟩
  · rintro ⟨k, g, hg, hf⟩
    rw [hzero] at hg
    refine ⟨g, ⟨(s.prot.dpa.get k, k.val), ?_, hg⟩, hf⟩
    rw [List.mk_mem_zipIdx_iff_getElem?, Vector.getElem?_toList, Vector.getElem?_eq_some_iff]
    exact ⟨k.isLt, rfl⟩

include hn

/-- A right is granted exactly if some area holds the access and has the right. -/
theorem State.granted_iff {right : Grant → Bool} {i : Fin 5 → Bool} {d : Fin 6 → Bool}
    (hi : ∀ k lo hi, right ⟨lo, hi, (s.prot.ipa.get k).upper.getLsbD 1, false, (s.prot.ipa.get k).upper.getLsbD 0,
      !s.sps⟩ = i k)
    (hd : ∀ k lo hi, right ⟨lo, hi, (s.prot.dpa.get k).upper.getLsbD 1, (s.prot.dpa.get k).upper.getLsbD 2, false,
      k == 0 || !s.sps⟩ = d k) :
    s.granted a n right = true ↔
      (∃ k, (s.prot.ipa.get k).Holds a n ∧ i k = true) ∨ ∃ k, (s.prot.dpa.get k).Holds a n ∧ d k = true := by
  rw [State.granted, State.any_grants]
  exact or_congr (exists_congr fun k => Area.ipaGrant_holds _ hn (hi k))
    (exists_congr fun k => Area.dpaGrant_holds _ hn (hd k))

theorem State.granted_read : s.granted a n Grant.read = true ↔ s.CanRead a n :=
  State.granted_iff hn (fun _ _ _ => rfl) fun _ _ _ => rfl

theorem State.granted_write : s.granted a n Grant.write = true ↔ s.InDpa a n 2 := by
  rw [State.granted_iff hn (i := fun _ => false) (d := fun k => (s.prot.dpa.get k).upper.getLsbD 2) (fun _ _ _ => rfl)
    fun _ _ _ => rfl]
  simp [State.InDpa]

theorem State.granted_exec : s.granted a n Grant.exec = true ↔ s.InIpa a n 0 := by
  rw [State.granted_iff hn (i := fun k => (s.prot.ipa.get k).upper.getLsbD 0) (d := fun _ => false) (fun _ _ _ => rfl)
    fun _ _ _ => rfl]
  simp [State.InIpa]

/-- DPA0 is open to the stack pointer always, the other areas while MPM.SPS = 0 (R134). -/
theorem State.granted_sp : s.granted a n Grant.sp = true ↔ s.CanStack a n := by
  rw [State.granted_iff hn (i := fun _ => !s.sps) (d := fun k => k == 0 || !s.sps) (fun _ _ _ => rfl) fun _ _ _ => rfl]
  have hsps : s.prot.mpm.getLsbD s.cfg.spsBit = s.sps := rfl
  rw [State.CanStack, hsps]
  cases s.sps with
  | true => simp
  | false =>
    simp only [Bool.not_false, Bool.or_true, and_true, true_and]
    exact ⟨.inr, fun h => h.elim (fun h => .inr ⟨0, h⟩) id⟩

end

/-! ### Accesses (R870, R872, R873) -/

theorem State.permits_iff (s : State) (a : Word) {n : Nat} (hn : 0 < n) (write sp : Bool) {right : Prop}
    (hright : s.granted a.toNat n (fun g => if write then g.write else g.read) = true ↔ right) :
    s.permits a n write sp = true ↔ (s.fDMP = true → right ∧ (sp = true → s.CanStack a.toNat n)) := by
  rw [← hright, ← State.granted_sp hn, State.permits]
  cases s.fDMP <;> cases sp <;> simp

theorem State.permitsFetch_iff (s : State) (a : Word) :
    s.permitsFetch a = true ↔ (s.fIMP = true → s.InIpa a.toNat 2 0) := by
  rw [← State.granted_exec (by decide), State.permitsFetch]
  cases s.fIMP <;> simp

/-! ### The setting check (R940) -/

/-- MCR of the five answers of the check. -/
def mcrOf (ov stack write read exec : Bool) : Word :=
  (if ov then bitAt 8 else 0) ||| (if stack then bitAt 4 else 0) ||| (if write then bitAt 2 else 0) |||
    (if read then bitAt 1 else 0) ||| (if exec then bitAt 0 else 0)

theorem mcrOf_bits : ∀ ov stack write read exec : Bool,
    (mcrOf ov stack write read exec).getLsbD 8 = ov ∧ (mcrOf ov stack write read exec).getLsbD 4 = stack ∧
      (mcrOf ov stack write read exec).getLsbD 2 = write ∧ (mcrOf ov stack write read exec).getLsbD 1 = read ∧
      (mcrOf ov stack write read exec).getLsbD 0 = exec ∧ mcrOf ov stack write read exec &&& ~~~0x117#32 = 0 := by
  decide

/-- The check answers OV where the bytes pass the middle or the end of the address space, else the rights (R940). -/
theorem State.settingCheck_eq (s : State) (hsize : s.prot.mcs ≠ 0) {ov : Bool}
    (hov : ov = true ↔ 2 ^ 32 < s.prot.mca.toNat + s.prot.mcs.toNat ∨
      (s.prot.mca.toNat < 2 ^ 31 ∧ 2 ^ 31 < s.prot.mca.toNat + s.prot.mcs.toNat)) :
    s.settingCheck = mcrOf ov (!ov && s.granted s.prot.mca.toNat s.prot.mcs.toNat Grant.sp)
      (!ov && s.granted s.prot.mca.toNat s.prot.mcs.toNat Grant.write)
      (!ov && s.granted s.prot.mca.toNat s.prot.mcs.toNat Grant.read)
      (!ov && s.granted s.prot.mca.toNat s.prot.mcs.toNat Grant.exec) := by
  have hpos : 0 < s.prot.mcs.toNat := Nat.pos_of_ne_zero fun h => hsize (BitVec.eq_of_toNat_eq h)
  have hmodel : (decide (0xFFFFFFFF < s.prot.mca.toNat + s.prot.mcs.toNat - 1) ||
      (decide (s.prot.mca.toNat ≤ 0x7FFFFFFF) && decide (0x80000000 ≤ s.prot.mca.toNat + s.prot.mcs.toNat - 1))) =
      ov := by
    rw [Bool.eq_iff_iff, hov]
    simp only [Bool.or_eq_true, Bool.and_eq_true, decide_eq_true_eq]
    omega
  unfold State.settingCheck mcrOf
  dsimp only
  rw [hmodel]

/-- Settles O36: each right is that of the areas; LDSR to MCC writes what the check answers to MCR. -/
theorem permitsMeans : Obligations.PermitsMeans := by
  intro s a n sp r m hn
  refine ⟨s.permits_iff a hn false sp (State.granted_read hn), s.permits_iff a hn true sp (State.granted_write hn),
    s.permitsFetch_iff a, fun hmcc hnpv hsize => ?_⟩
  have hload : s.loadSys m (s.reg r) = s.setProt { s.prot with mcr := s.settingCheck } := by
    rw [State.loadSys_of_npv hnpv, hmcc, State.writeSys]
  have hexec : exec (.ldsr r m) s = .next ((s.setProt { s.prot with mcr := s.settingCheck }).advance 4) := by
    rw [exec, execLdsr, hload]
  refine ⟨_, hexec, ?_⟩
  have hpos : 0 < s.prot.mcs.toNat := Nat.pos_of_ne_zero fun h => hsize (BitVec.eq_of_toNat_eq h)
  dsimp only [State.advance_prot, State.setProt_prot]
  generalize hovdef : decide (2 ^ 32 < s.prot.mca.toNat + s.prot.mcs.toNat ∨
    (s.prot.mca.toNat < 2 ^ 31 ∧ 2 ^ 31 < s.prot.mca.toNat + s.prot.mcs.toNat)) = ov
  have hov : ov = true ↔ 2 ^ 32 < s.prot.mca.toNat + s.prot.mcs.toNat ∨
      (s.prot.mca.toNat < 2 ^ 31 ∧ 2 ^ 31 < s.prot.mca.toNat + s.prot.mcs.toNat) := by rw [← hovdef, decide_eq_true_iff]
  have right {q : Grant → Bool} {p : Prop} (hq : s.granted s.prot.mca.toNat s.prot.mcs.toNat q = true ↔ p) :
      (!ov && s.granted s.prot.mca.toNat s.prot.mcs.toNat q) = true ↔ ¬(ov = true) ∧ p := by
    rw [Bool.and_eq_true, hq, Bool.not_eq_true', Bool.not_eq_true]
  rw [s.settingCheck_eq hsize hov, ← hov]
  obtain ⟨h8, h4, h2, h1, h0, hmask⟩ := mcrOf_bits ov
    (!ov && s.granted s.prot.mca.toNat s.prot.mcs.toNat Grant.sp)
    (!ov && s.granted s.prot.mca.toNat s.prot.mcs.toNat Grant.write)
    (!ov && s.granted s.prot.mca.toNat s.prot.mcs.toNat Grant.read)
    (!ov && s.granted s.prot.mca.toNat s.prot.mcs.toNat Grant.exec)
  rw [h8, h4, h2, h1, h0, right (State.granted_sp hpos), right (State.granted_write hpos),
    right (State.granted_read hpos), right (State.granted_exec hpos)]
  exact ⟨Iff.rfl, Iff.rfl, Iff.rfl, Iff.rfl, Iff.rfl, hmask, rfl, rfl, rfl, rfl, rfl, rfl,
    fun _ _ => State.reg_congr rfl _, fun _ => rfl, ⟨rfl, rfl, rfl, rfl, rfl⟩, rfl⟩

end Sys2Proof.Machine
end


section
/-! PROOFS. CMPF, CMOVF and TRFSR, and the truth of the 16 conditions of CMPF (O52). -/
namespace Sys2Proof.Machine

/-! ### What the instructions do -/

section
variable {s : State}

/-- CMPF with nothing enabled changes one condition bit of FPSR and its preservation bits. -/
theorem givesCompare {i : Instr} {c : FpClass} {listed : Det} {g : FpEnv → FpOut} {o : FpOut} {n : BitVec 3}
    (hexec : exec i s = s.fpRun c listed g (toCc n)) (ho : g s.fpEnv = o) (ready : s.fpReady)
    (hdet : s.fpEnabled o.det = false) :
    Gives i s fun t =>
      t.fpu = { s.fpu with
        fpsr := putBit (s.fpu.fpsr ||| (o.det.setWidth 5).setWidth 32) (24 + n.toNat) (o.value.getLsbD 0) } ∧
      SameRegsBut [] s t ∧ t.psw = s.psw ∧ SameMem s t ∧ SameSystem s t ∧ SameRest s t ∧ Falls 4 s t :=
  ⟨_, exec_of_not_enabled hexec ho ready.1 hdet, rfl, fun _ _ => State.reg_congr rfl _, rfl, fun _ => rfl,
    ⟨rfl, rfl, rfl, rfl⟩, ⟨rfl, rfl, rfl, rfl, rfl⟩, rfl⟩

/-- With an FPU an instruction of a class does what its definition says. -/
theorem State.withFpu_of_hasFpu (h : s.cfg.hasFpu = true) (c : FpClass) (t : State) : s.withFpu c t = .next t :=
  if_pos h

theorem exec_cmovfS (hfpu : s.cfg.hasFpu = true) (hvalid : s.fpInvalid = false) (n : BitVec 3) (r1 r2 r3 : Reg) :
    exec (.cmovfS n r1 r2 r3) s =
      .next (s.move r3 (if s.fpu.fpsr.getLsbD (24 + n.toNat) then s.reg r1 else s.reg r2) 4) := by
  dsimp only [exec, execCmovfS]
  rw [State.withFpu_of_hasFpu hfpu, hvalid]
  rfl

theorem exec_cmovfD (hfpu : s.cfg.hasFpu = true) (hvalid : s.fpInvalid = false) (n : BitVec 3) (p1 p2 p3 : Pair) :
    exec (.cmovfD n p1 p2 p3) s =
      .next ((s.setPair p3 (if s.fpu.fpsr.getLsbD (24 + n.toNat) then s.pair p1 else s.pair p2)).advance 4) := by
  dsimp only [exec, execCmovfD]
  rw [State.withFpu_of_hasFpu hfpu, hvalid]
  rfl

theorem exec_trfsr (hfpu : s.cfg.hasFpu = true) (n : BitVec 3) :
    exec (.trfsr n) s = .next ((s.putZ (s.fpu.fpsr.getLsbD (24 + n.toNat))).advance 4) := by
  dsimp only [exec, execTrfsr]
  exact State.withFpu_of_hasFpu hfpu _ _

/-- A double word written to a register pair stands in its two registers. -/
theorem movesPair {i : Instr} {p : Pair} {v : DWord} (hexec : exec i s = .next ((s.setPair p v).advance 4)) :
    Gives i s fun t => Holds t p.lo (v.extractLsb' 0 32) ∧ Holds t p.hi (v.extractLsb' 32 32) ∧
      Falls 4 s t ∧ OnlyRegs [p.lo, p.hi] 0 s t := by
  have hhi : p.hi ∈ [p.lo, p.hi] := List.mem_cons_of_mem _ List.mem_cons_self
  have hpair : OnlyRegs [p.lo, p.hi] 0 s (s.setPair p v) :=
    ((OnlyRegs.refl _ _ _).setReg List.mem_cons_self _).setReg hhi _
  refine ⟨_, hexec, (State.holds_setReg _ _ _).setReg (Pair.lo_ne_hi p) _, State.holds_setReg _ _ _, ?_, hpair⟩
  rw [Falls, State.advance_pc, hpair.cfg]
  exact congrArg (fun a => pcValue s.cfg (a + 4)) (toPair_pc p v s)

end

/-! ### Operands as values that are compared (R650, R771) -/

/-- An operand that is no NaN is a number or an infinity. -/
theorem Fmt.unpack_number_or_inf (f : Fmt) (w : DWord) (h : (f.unpack w).val.isNan = false) :
    (f.unpack w).val.Number ∨ ∃ s, (f.unpack w).val = .inf s := by
  rw [Fmt.unpack] at h ⊢
  split
  next he =>
    rw [if_pos he] at h
    split
    · exact .inr ⟨_, rfl⟩
    next hm =>
      rw [if_neg hm] at h
      exact Bool.noConfusion h
  next =>
    split
    · exact .inl trivial
    · exact .inl (Nat.add_pos_left (Nat.two_pow_pos _) _).ne'

/-- A NaN is neither less than a value nor greater, and below none and above none. -/
theorem Fp.less_below_of_nan {x y : Fp} (h : x.isNan = true ∨ y.isNan = true) : x.less y = false ∧ ¬x.Below y := by
  obtain hx | hy := h
  · cases x with
    | nan => exact ⟨rfl, id⟩
    | _ => exact Bool.noConfusion hx
  · cases y with
    | nan => cases x <;> exact ⟨rfl, id⟩
    | _ => exact Bool.noConfusion hy

/-- The order of the model is that of the numbers and infinities that the operands stand for. -/
theorem Fmt.unpack_less_iff (f : Fmt) (v w : DWord) :
    (f.unpack v).val.less (f.unpack w).val = true ↔ (f.unpack v).val.Below (f.unpack w).val := by
  by_cases hun : (f.unpack v).val.isNan = true ∨ (f.unpack w).val.isNan = true
  · obtain ⟨hless, hbelow⟩ := Fp.less_below_of_nan hun
    exact iff_of_false (Bool.eq_false_iff.1 hless) hbelow
  · simp only [not_or, Bool.not_eq_true] at hun
    exact Fp.less_iff_below (f.unpack_number_or_inf v hun.1) (f.unpack_number_or_inf w hun.2)

/-! ### The truth of a condition, and what it detects (R770) -/

/-- One of two values is a NaN. -/
def Fp.Unordered (x y : Fp) : Prop := x.isNan = true ∨ y.isNan = true

/-- Neither of two values is a NaN, and neither is below the other. -/
def Fp.Alike (x y : Fp) : Prop := ¬x.Unordered y ∧ ¬x.Below y ∧ ¬y.Below x

/-- Bit 0 of a condition stands for unordered, bit 2 for less and bit 1 for equal. -/
theorem compareFp_holds_iff (f : Fmt) (env : FpEnv) (fc : BitVec 4) (v w : DWord) :
    (compareFp env fc (f.unpack v) (f.unpack w)).value.getLsbD 0 = true ↔
      fc.getLsbD 0 = true ∧ (f.unpack v).val.Unordered (f.unpack w).val ∨
        fc.getLsbD 2 = true ∧ (f.unpack v).val.Below (f.unpack w).val ∨
        fc.getLsbD 1 = true ∧ (f.unpack v).val.Alike (f.unpack w).val := by
  simp only [Fp.Alike, Fp.Unordered, ← f.unpack_less_iff]
  generalize f.unpack v = x, f.unpack w = y
  have hvalue : (compareFp env fc x y).value.getLsbD 0 =
      (fc.getLsbD 2 && x.val.less y.val ||
        fc.getLsbD 1 && (!(x.val.isNan || y.val.isNan) && !x.val.less y.val && !y.val.less x.val) ||
        fc.getLsbD 0 && (x.val.isNan || y.val.isNan)) := by
    simp [compareFp]
  rw [hvalue]
  simp only [Bool.or_eq_true, Bool.and_eq_true, Bool.not_eq_true', ← Bool.not_eq_true, and_assoc]
  rw [or_comm]

/-- Where only conditions 8 to 15 detect V, they do so exactly of unordered operands. -/
theorem compareFp_det {env : FpEnv} (h : env.cfg.cmpfSnanAlwaysInvalid = false) (fc : BitVec 4) (x y : Operand) :
    (fc.getLsbD 3 = true ∧ x.val.Unordered y.val → (compareFp env fc x y).det = Det.v) ∧
      (¬(fc.getLsbD 3 = true ∧ x.val.Unordered y.val) → (compareFp env fc x y).det = 0) := by
  have hdet : (compareFp env fc x y).det =
      if (x.val.isNan || y.val.isNan) && fc.getLsbD 3 then Det.v else 0 := by
    simp only [compareFp, h, Bool.false_and, Bool.or_false]
  have hiff : ((x.val.isNan || y.val.isNan) && fc.getLsbD 3) = true ↔ fc.getLsbD 3 = true ∧ x.val.Unordered y.val := by
    rw [Bool.and_eq_true, Bool.or_eq_true, and_comm]
    rfl
  exact ⟨fun hv => hdet.trans (if_pos (hiff.2 hv)), fun hv => hdet.trans (if_neg fun hc => hv (hiff.1 hc))⟩

/-- Settles O52: the instructions by `exec` with an FPU, the conditions by their bits. -/
theorem fpCompareAndMove : Obligations.FpCompareAndMove := by
  unfold Obligations.FpCompareAndMove
  refine ⟨fun s fc n r1 r2 r3 p1 p2 p3 => ⟨?cmpfS, ?cmpfD, fun hfpu hvalid => ⟨?cmovfS, ?cmovfD⟩, fun hfpu => ?trfsr⟩,
    fun f env v w _ => ?conditions⟩
  case cmpfS => exact fun ready hdet => givesCompare (c := .single) (by dsimp only [exec]; rfl) (by rfl) ready hdet
  case cmpfD => exact fun ready hdet => givesCompare (c := .double) (by dsimp only [exec]; rfl) (by rfl) ready hdet
  case cmovfS =>
    exact ⟨_, exec_cmovfS hfpu hvalid n r1 r2 r3, s.holds_move _ _ _,
      s.falls_move _ _ _, s.onlyRegs_move _ _ _⟩
  case cmovfD => exact movesPair (exec_cmovfD hfpu hvalid n p1 p2 p3)
  case trfsr => exact ⟨_, exec_trfsr hfpu n, State.fZ_putZ _ _, rfl, ((OnlyRegs.refl _ _ _).putZ _).setPc _⟩
  case conditions =>
    have hbits := fun fc => compareFp_holds_iff f env fc v w
    have hdet := fun h fc => compareFp_det (env := env) h fc (f.unpack v) (f.unpack w)
    dsimp only
    refine ⟨?_, ?_, ?_, ?_, ?_, ?_, ?_, ?_, ?_, ?_, ?_, ?_, ?_, ?_, ?_, ?_, hdet⟩
    all_goals
      rw [hbits]
      simp [Fp.Alike, Fp.Unordered]

end Sys2Proof.Machine
end
